-- ==== Sys2Proof/Word.lean ====
section
/-! DEFINITION. The word types of the SEC: one bus word (20_memory R121) and one bus address (R120). -/

namespace Sys2Proof

/-- One 32-bit bus word (20_memory R121); every register and every command word is one. -/
abbrev Word := BitVec 32

/-- One 24-bit byte address of the SEC's bus (20_memory R120). -/
abbrev Address := BitVec 24

/-- The byte-enable mask of a bus transaction, bit `k` for byte lane `k` (20_memory R121). -/
abbrev ByteEnable := BitVec 4

end Sys2Proof
end

