-- ==== Sys2Proof/Syntax.lean ====
section
/-! DEFINITION. The commands of the SEC, one constructor per row of spec/opcode_table.json, and the command
word's two fields. A command has no operand field: its operands are registers and buffers (30_encoding R160). -/

namespace Sys2Proof

/-- The 24 commands of 30_encoding R162. -/
inductive Instr where
  /-- `NOP`, 40_control_pipeline R220. -/
  | nop
  /-- `SOFT_RESET`, 40_control_pipeline R221. -/
  | softReset
  /-- `RS_INIT`, 41_rs_engine R240. -/
  | rsInit
  /-- `RS_ENCODE`, 41_rs_engine R250. -/
  | rsEncode
  /-- `RS929_ENCODE`, 41_rs_engine R270. -/
  | rs929Encode
  /-- `DM_OPTIMIZE`, 42_dm_optimizer R290. -/
  | dmOptimize
  /-- `DM_PRODUCE`, 44_dm_producer R375. -/
  | dmProduce
  /-- `DM_ECC`, 44_dm_producer R390. -/
  | dmEcc
  /-- `DM_LAYOUT`, 47_dm_maxicode_layout R520. -/
  | dmLayout
  /-- `DM_ENCODE`, 40_control_pipeline R230. -/
  | dmEncode
  /-- `PDF_OPTIMIZE`, 43_pdf417_optimizer R330. -/
  | pdfOptimize
  /-- `PDF_PRODUCE`, 45_pdf417_producer R430. -/
  | pdfProduce
  /-- `PDF_ECC`, 45_pdf417_producer R445. -/
  | pdfEcc
  /-- `PDF_LAYOUT`, 48_pdf417_layout R560. -/
  | pdfLayout
  /-- `PDF_ENCODE`, 40_control_pipeline R231. -/
  | pdfEncode
  /-- `MAXI_PRODUCE`, 46_maxicode_qr_producer R460. -/
  | maxiProduce
  /-- `MAXI_ECC`, 46_maxicode_qr_producer R475. -/
  | maxiEcc
  /-- `MAXI_LAYOUT`, 47_dm_maxicode_layout R530. -/
  | maxiLayout
  /-- `MAXI_ENCODE`, 40_control_pipeline R232. -/
  | maxiEncode
  /-- `QR_PRODUCE`, 46_maxicode_qr_producer R490. -/
  | qrProduce
  /-- `QR_ECC`, 46_maxicode_qr_producer R505. -/
  | qrEcc
  /-- `QR_LAYOUT`, 49_qr_layout_mask R600. -/
  | qrLayout
  /-- `QR_MASK`, 49_qr_layout_mask R640. -/
  | qrMask
  /-- `QR_ENCODE`, 40_control_pipeline R233. -/
  | qrEncode
  deriving DecidableEq, Repr

/-- A command word in the format `CMDW` (30_encoding R160): `OP` in bits [7:0], `RSV` in bits [31:8]. -/
structure CmdWord where
  op : BitVec 8
  rsv : BitVec 24
  deriving DecidableEq, Repr

/-- The commands in the order of the opcode map (30_encoding R162). -/
def Instr.all : List Instr :=
  [.nop, .softReset, .rsInit, .rsEncode, .rs929Encode,
   .dmOptimize, .dmProduce, .dmEcc, .dmLayout, .dmEncode,
   .pdfOptimize, .pdfProduce, .pdfEcc, .pdfLayout, .pdfEncode,
   .maxiProduce, .maxiEcc, .maxiLayout, .maxiEncode,
   .qrProduce, .qrEcc, .qrLayout, .qrMask, .qrEncode]

end Sys2Proof
end

