-- ==== Sys2Proof/WellFormed.lean ====
section
/-! DEFINITION. When a command word and a bus access are well formed (30_encoding R160 to R163, 20_memory R127).
A command is only a name, so its word is what can be ill formed. -/

namespace Sys2Proof

/-- The opcodes of the map (30_encoding R162); every other value is reserved (R163). -/
def legalOpcodes : List (BitVec 8) :=
  [0x00, 0x01, 0x10, 0x11, 0x12, 0x20, 0x21, 0x22, 0x23, 0x2F, 0x30, 0x31, 0x32, 0x33, 0x3F,
   0x40, 0x41, 0x42, 0x4F, 0x50, 0x51, 0x52, 0x53, 0x5F]

/-- The opcode is in the map (30_encoding R161, first check). -/
def CmdWord.opLegal (w : CmdWord) : Bool := legalOpcodes.contains w.op

/-- The reserved bits are zero (30_encoding R161, second check). -/
def CmdWord.rsvClear (w : CmdWord) : Bool := w.rsv == 0

/-- The word is a command: 30_encoding R161 executes it. -/
def CmdWord.wellFormed (w : CmdWord) : Bool := w.opLegal && w.rsvClear

/-- A bus access is legal exactly when it is word aligned and enables all four byte lanes (20_memory R127). -/
def busAccessLegal (a : Address) (be : ByteEnable) : Bool := a.extractLsb' 0 2 == 0 && be == 0b1111

end Sys2Proof
end

