-- ==== Sys2Proof/Decode.lean ====
section
/-! DEFINITION. Decoding a command word (30_encoding R160 to R164): total on all words, rejecting by name, and the
encoder beside it, written from the same opcode map. -/

namespace Sys2Proof

/-- What the decode of 30_encoding R161 finds in a command word. -/
inductive Decoded where
  /-- a command: a legal opcode and zero reserved bits -/
  | command (i : Instr)
  /-- a reserved opcode: `ILLEGAL_CMD` detail 1 (`UNKNOWN_OP`) -/
  | unknownOp
  /-- the opcode of a command with reserved bits set: `ILLEGAL_CMD` detail 2 (`RSV_NONZERO`) -/
  | reservedBits (i : Instr)
  deriving DecidableEq, Repr

/-- The two fields of a command word (30_encoding R160). -/
def CmdWord.ofWord (w : Word) : CmdWord := ⟨w.extractLsb' 0 8, w.extractLsb' 8 24⟩

/-- The word of the two fields (30_encoding R160). -/
def CmdWord.toWord (c : CmdWord) : Word := c.rsv ++ c.op

/-- The opcode map of 30_encoding R162; none for a reserved opcode (R163). -/
def decodeOp (op : Nat) : Option Instr :=
  match op with
  | 0x00 => some .nop
  | 0x01 => some .softReset
  | 0x10 => some .rsInit
  | 0x11 => some .rsEncode
  | 0x12 => some .rs929Encode
  | 0x20 => some .dmOptimize
  | 0x21 => some .dmProduce
  | 0x22 => some .dmEcc
  | 0x23 => some .dmLayout
  | 0x2F => some .dmEncode
  | 0x30 => some .pdfOptimize
  | 0x31 => some .pdfProduce
  | 0x32 => some .pdfEcc
  | 0x33 => some .pdfLayout
  | 0x3F => some .pdfEncode
  | 0x40 => some .maxiProduce
  | 0x41 => some .maxiEcc
  | 0x42 => some .maxiLayout
  | 0x4F => some .maxiEncode
  | 0x50 => some .qrProduce
  | 0x51 => some .qrEcc
  | 0x52 => some .qrLayout
  | 0x53 => some .qrMask
  | 0x5F => some .qrEncode
  | _ => none

/-- The decode of 30_encoding R161: the unknown opcode is checked before the reserved bits. -/
def decode (w : Word) : Decoded :=
  match decodeOp (CmdWord.ofWord w).op.toNat with
  | none => .unknownOp
  | some i => if (CmdWord.ofWord w).rsv = 0 then .command i else .reservedBits i

/-- The opcode of a command (30_encoding R162). -/
def opcode (i : Instr) : BitVec 8 :=
  match i with
  | .nop => 0x00
  | .softReset => 0x01
  | .rsInit => 0x10
  | .rsEncode => 0x11
  | .rs929Encode => 0x12
  | .dmOptimize => 0x20
  | .dmProduce => 0x21
  | .dmEcc => 0x22
  | .dmLayout => 0x23
  | .dmEncode => 0x2F
  | .pdfOptimize => 0x30
  | .pdfProduce => 0x31
  | .pdfEcc => 0x32
  | .pdfLayout => 0x33
  | .pdfEncode => 0x3F
  | .maxiProduce => 0x40
  | .maxiEcc => 0x41
  | .maxiLayout => 0x42
  | .maxiEncode => 0x4F
  | .qrProduce => 0x50
  | .qrEcc => 0x51
  | .qrLayout => 0x52
  | .qrMask => 0x53
  | .qrEncode => 0x5F

/-- The one word of a command, `OP` with zero reserved bits (30_encoding R160, R191 `cmd`). -/
def encode (i : Instr) : Word := CmdWord.toWord ⟨opcode i, 0⟩

/-- The command the decoder reads from a word of `nbits` bits, numbered as spec/opcode_table.json numbers them; every
bit of the command word at or above `nbits` is zero. -/
def decodeTableWord (nbits w : Nat) : Option Instr :=
  match decode (BitVec.ofNat 32 (w % 2 ^ nbits)) with
  | .command i => some i
  | .unknownOp => none
  | .reservedBits _ => none

end Sys2Proof
end

