-- ==== Sys2Proof/Config.lean ====
section
/-! DEFINITION. What an implementation fixes: the size parameters of 00_scope R8, the OPEN tables of
92_eei_decisions section 8 and the free values of 93_implementation_defined section 1. The OPEN tables and
the free values are opaque constants without a body: nothing can be proved of the values they take. -/

namespace Sys2Proof.Config

/-- Entries of the input buffer `IN` (00_scope R8, `P_IN_MAX`). -/
def inMax : Nat := 4096
/-- Entries of the codeword buffer `CW` (00_scope R8, `P_CW_MAX`). -/
def cwMax : Nat := 4096
/-- Entries of the plan buffer `PLAN`, the input and one sentinel (00_scope R8, `P_PLAN_MAX`). -/
def planMax : Nat := 4097
/-- Rows of `MAT` (00_scope R8, `P_MAT_ROWS`). -/
def matRows : Nat := 256
/-- Columns of `MAT` (00_scope R8, `P_MAT_COLS`). -/
def matCols : Nat := 1024
/-- The Data Matrix input length limit (00_scope R8, `C_MAX_BYTE_COUNT`). -/
def maxByteCount : Nat := 3116
/-- The MicroPDF417 message codeword limit (00_scope R8, `C_MPDF_MAX_CW`). -/
def microMaxCw : Nat := 126
/-- The most codewords of one PDF417 symbol (00_scope R8, `C_PDF_MAX_CW`). -/
def pdfMaxCw : Nat := 928

/-! ### Free values (93_implementation_defined section 1, treatment "any value") -/

/-- DESIGN CHOICE (log 4): the value of the buffer entry at a byte address that nothing has written since draw
number `n` made the buffer unspecified (10_state R86, R78). The entry takes the low bits. -/
opaque bufferDraw (n : Nat) (address : Nat) : Word

/-- DESIGN CHOICE (log 5): the value of the result register at a byte offset after the error that took draw
number `n` (10_state R73, 60_exceptions R715). The register takes the low bits. -/
opaque resultDraw (n : Nat) (offset : Nat) : Word

/-- DESIGN CHOICE (log 6): the word that bus read number `n` returns while `BUSY = 1` (20_memory R136) or
while `rst = 1` (70_reset_and_hazards R750). -/
opaque busDraw (n : Nat) : Word

/-! ### OPEN tables (92_eei_decisions section 8) -/

/-- `LEGACY144_PERM` (44_dm_producer R380, D24): some bijection of the 2178 positions (log 8). -/
opaque legacy144Perm : Equiv.Perm (Fin 2178)

/-- The candidate rows of `MPDF_VARIANTS` as `(cols, rows, ec)` (45_pdf417_producer R431, D31). The table is
this list without the rows the rule forbids, in the order the rule asks for (log 9). -/
opaque mpdfCandidates : List (Nat × Nat × Nat)

/-- `MPDF_RAP` (48_pdf417_layout R567, D31) of the variant with these columns, rows and parity codewords, at a
row of it: `LRAP`, `CRAP`, `RRAP` and the cluster (log 10). -/
opaque mpdfRap (cols rows ec row : Nat) : BitVec 10 × BitVec 10 × BitVec 10 × Fin 3

/-- The 15 modules between the leading bar and the trailing space of `PDF_PATTERNS[k][v]`
(48_pdf417_layout R561, D36; log 11). -/
opaque pdfPatternInner (cluster : Fin 3) (value : Fin 929) : BitVec 15

/-- The MaxiCode code sets (46_maxicode_qr_producer R462). -/
inductive MaxiSet where
  | a | b | c | d | e
  deriving DecidableEq, Repr

/-- `MVAL[s][b]` of `MAXI_CODESETS`: the value of a byte in a set, or none (46_maxicode_qr_producer R462, D34;
log 12). -/
opaque maxiVal (s : MaxiSet) (byte : BitVec 8) : Option (BitVec 6)

/-- `MLATCH[A][B]`; the other latch, `MLATCH[B][A] = 58`, is given (46_maxicode_qr_producer R462, D34; log 12). -/
opaque maxiLatchAB : BitVec 6

/-- `MSHIFT[s][t]` of `MAXI_CODESETS` (46_maxicode_qr_producer R462; log 12). -/
opaque maxiShift (s t : MaxiSet) : BitVec 6

/-- `MPAD`, the MaxiCode pad codeword (46_maxicode_qr_producer R462; log 12). -/
opaque maxiPad : BitVec 6

/-- The 33 × 30 grid cells in some order (log 13): its first 864 places are `MAXI_MAP`, six a codeword
(47_dm_maxicode_layout R531, D36), the last 126 the cells `MAXI_FIXED` may take from. -/
opaque maxiCellOrder : Equiv.Perm (Fin 990)

/-- Which of the 126 cells outside `MAXI_MAP` are in `MAXI_FIXED` (47_dm_maxicode_layout R532, D36; log 13). -/
opaque maxiFixedChoice : Fin 126 → Bool

end Sys2Proof.Config
end

