-- ==== Sys2Proof/Machine/State.lean ====
section
/-! DEFINITION. The state of the SEC as plain data (10_state), with the host's pending bus events beside it
(20_memory R139: "The system state is the SEC's state plus the host's"), the reasons a step can stop, and the
state right after reset (10_state R85, R86; 70_reset_and_hazards R750). -/

namespace Sys2Proof.Machine

/-- Why the machine stops with a fault. There is no constructor: no access and no command leaves the SEC without a
defined next state (93_implementation_defined section 1, "The SEC never hangs"), so no fault can be raised. Safe. -/
inductive Fault where
  deriving DecidableEq, Repr

/-- Why the machine refuses an instruction. -/
inductive Refusal where
  /-- Raised by `exec` for a command that has no meaning yet. No arm raises it: every command is modelled. Safe. -/
  | notModelled (mnemonic : String)
  deriving DecidableEq, Repr

/-- `STATUS.PIPE_SYM`, the symbology of the current pipeline (10_state R51). -/
inductive PipeSym where
  | noSym | dm | pdf | maxi | qr
  deriving DecidableEq, Repr

/-- `STATUS.PIPE_STAGE`, the last completed stage of the pipeline (10_state R51). -/
inductive PipeStage where
  | noStage | planned | produced | protectedCw | placed | masked
  deriving DecidableEq, Repr

/-- The error codes of 60_exceptions R701. -/
inductive ErrCode where
  | illegalCmd | sequence | config | capacity | charset | rsParam | rsNotReady | rsRange
  deriving DecidableEq, Repr

/-- What `raise Error(CODE, detail, index)` carries (00_scope R15); `index` is the value for `ERR_INDEX`. -/
structure CmdError where
  code : ErrCode
  detail : Nat
  index : Word
  deriving DecidableEq, Repr

/-- What an entry of a buffer holds that no write has listed: 0 after a layout command cleared the buffer
(10_state R79), or the free value of a draw (10_state R86, R78; log 4). -/
inductive Background where
  | zero
  | drawn (n : Nat)
  deriving DecidableEq, Repr

/-- A buffer of `size` entries of `width` bits, entry `i` at bus address `base + 4 i` (10_state R74, 20_memory R123).
`cells` lists entries by strictly rising index, and none that equals what an unlisted entry holds (log 3). -/
structure Buffer (base size width : Nat) where
  cells : List (Nat × BitVec width)
  background : Background
  deriving DecidableEq, Repr

/-- The buffer `IN` (10_state R75). -/
abbrev InBuffer := Buffer 0x010000 4096 8
/-- The buffer `CW` (10_state R76). -/
abbrev CwBuffer := Buffer 0x020000 4096 10
/-- The buffer `PLAN` (10_state R77). -/
abbrev PlanBuffer := Buffer 0x030000 4097 4
/-- The table `ALPHA_TO` of `GF` (10_state R78). -/
abbrev AlphaBuffer := Buffer 0x040000 256 8
/-- The table `INDEX_OF` of `GF` (10_state R78). -/
abbrev IndexBuffer := Buffer 0x040400 256 8
/-- The table `GENPOLY` of `GF` (10_state R78). -/
abbrev GenBuffer := Buffer 0x040800 256 8
/-- The module matrix `MAT`; `MAT[r][c]` is entry `1024 r + c`, bit 0 `DARK` and bit 1 `FUNC` (10_state R79). -/
abbrev MatBuffer := Buffer 0x100000 262144 2

/-- The register `CTRL` (10_state R45). -/
structure Ctrl where
  ieDone : Bool
  ieErr : Bool
  deriving DecidableEq, Repr

/-- The register `SYM_CFG` (10_state R56). -/
structure SymCfg where
  gs1 : Bool
  micro : Bool
  trunc : Bool
  legacy144 : Bool
  maxiLcReject : Bool
  mode : BitVec 4
  ecl : BitVec 4
  size : BitVec 8
  deriving DecidableEq, Repr

/-- The input and configuration registers (10_state R55 to R59). -/
structure CfgRegs where
  /-- `IN_LEN` (R55) -/
  inLen : BitVec 13
  /-- `SYM_CFG` (R56) -/
  symCfg : SymCfg
  /-- `PDF_GEOM.ROWS` (R57) -/
  rows : BitVec 8
  /-- `PDF_GEOM.COLS` (R57) -/
  cols : BitVec 8
  /-- `MAXI_POSTAL` (R58) -/
  maxiPostal : Word
  /-- `MAXI_SCM.X_HI` (R59) -/
  xHi : BitVec 4
  /-- `MAXI_SCM.COUNTRY` (R59) -/
  country : BitVec 10
  /-- `MAXI_SCM.SERVICE` (R59) -/
  service : BitVec 10
  deriving DecidableEq, Repr

/-- The parameter and operand registers of the host RS engine (10_state R61, R62). -/
structure RsRegs where
  m : BitVec 4
  poly : BitVec 9
  fcr : BitVec 8
  prim : BitVec 8
  nroots : BitVec 10
  pad : BitVec 8
  src : BitVec 12
  len : BitVec 13
  dst : BitVec 12
  deriving DecidableEq, Repr

/-- The active parameters `RS_ACT0` and `RS_ACT1` (10_state R63). -/
structure RsActive where
  m : BitVec 4
  poly : BitVec 9
  fcr : BitVec 8
  prim : BitVec 8
  nroots : BitVec 10
  pad : BitVec 8
  deriving DecidableEq, Repr

/-- The registers `QR_PENALTY0` to `QR_PENALTY7` (10_state R69). -/
structure Penalties where
  p0 : Word
  p1 : Word
  p2 : Word
  p3 : Word
  p4 : Word
  p5 : Word
  p6 : Word
  p7 : Word
  deriving DecidableEq, Repr

/-- The result registers that an error leaves unspecified (10_state R66 to R73). -/
structure ResultRegs where
  /-- `CW_TOTAL` (R66) -/
  cwTotal : BitVec 13
  /-- `CW_DATA` (R66) -/
  cwData : BitVec 13
  /-- `CW_MSG` (R66) -/
  cwMsg : BitVec 13
  /-- `SEL_SIZE` (R67) -/
  selSize : BitVec 16
  /-- `SEL_ECL` (R68) -/
  selEcl : BitVec 4
  /-- `SEL_MODE` (R72) -/
  selMode : BitVec 4
  /-- `PLAN_LEN` (R70) -/
  planLen : BitVec 13
  /-- `QR_BITS` (R71) -/
  qrBits : BitVec 16
  /-- `QR_MASK_SEL` (R69) -/
  qrMaskSel : BitVec 3
  /-- `QR_PENALTY0..7` (R69) -/
  qrPenalty : Penalties
  deriving DecidableEq, Repr

/-- One event of a run, in the order the host and the platform issue them (20_memory R139). -/
inductive Event where
  /-- the host reads the word at an address (20_memory R121) -/
  | read (a : Address) (be : ByteEnable)
  /-- the host writes a word at an address (20_memory R121) -/
  | write (a : Address) (be : ByteEnable) (d : Word)
  /-- the sequencer is given its turn: it steps if `BUSY = 1` (20_memory R139) -/
  | sequencer
  /-- the platform drives the `rst` pin to a level (70_reset_and_hazards R750) -/
  | rst (level : Bool)
  /-- the loop of `wait`: the host reads `STATUS`, and again while bit 0 of the word it reads is 1 (30_encoding R192); `polls` more
  reads come before the sequencer is given its turn (20_memory R141, log 24) -/
  | poll (polls : Nat)
  deriving DecidableEq, Repr

/-- The SEC's state and the host's. `STATUS.BUSY` is not a field: it is 1 exactly while `latch` holds a word
(10_state R47, R83). -/
structure State where
  /-- `CTRL` (10_state R45) -/
  ctrl : Ctrl
  /-- `STATUS.DONE` (10_state R48) -/
  done : Bool
  /-- `STATUS.ERR` (10_state R48) -/
  err : Bool
  /-- `STATUS.CMD_REJECT` (10_state R49) -/
  cmdReject : Bool
  /-- `STATUS.BUS_VIOL` (10_state R49) -/
  busViol : Bool
  /-- `STATUS.RS_READY` (10_state R50) -/
  rsReady : Bool
  /-- `STATUS.PIPE_SYM` (10_state R51) -/
  pipeSym : PipeSym
  /-- `STATUS.PIPE_STAGE` (10_state R51) -/
  pipeStage : PipeStage
  /-- `ERR_CODE.CODE` (10_state R53) -/
  errCode : BitVec 8
  /-- `ERR_CODE.DETAIL` (10_state R53) -/
  errDetail : BitVec 8
  /-- `ERR_INDEX` (10_state R54) -/
  errIndex : Word
  /-- the input and configuration registers -/
  cfg : CfgRegs
  /-- the host RS engine's parameter and operand registers -/
  rs : RsRegs
  /-- the host RS engine's active parameters -/
  act : RsActive
  /-- `OUT_W` (10_state R65) -/
  outW : BitVec 11
  /-- `OUT_H` (10_state R65) -/
  outH : BitVec 9
  /-- the other result registers -/
  res : ResultRegs
  /-- the buffer `IN` -/
  inBuf : InBuffer
  /-- the buffer `CW` -/
  cw : CwBuffer
  /-- the buffer `PLAN` -/
  plan : PlanBuffer
  /-- the table `ALPHA_TO` -/
  alphaTo : AlphaBuffer
  /-- the table `INDEX_OF` -/
  indexOf : IndexBuffer
  /-- the table `GENPOLY` -/
  genpoly : GenBuffer
  /-- the module matrix `MAT` -/
  mat : MatBuffer
  /-- the accepted command word, from acceptance to completion (10_state R83) -/
  latch : Option Word
  /-- the level of the `rst` pin (20_memory R120) -/
  rst : Bool
  /-- the model's own: how many free values have been drawn (log 7) -/
  draws : Nat
  /-- the model's own: the events still to come, oldest first (log 2) -/
  pending : List Event
  /-- the model's own: the words bus reads returned, newest first (log 2) -/
  responses : List Word
  deriving DecidableEq, Repr

/-- Every register of `CfgRegs` at its reset value (10_state R85). -/
def CfgRegs.reset : CfgRegs := ⟨0, ⟨false, false, false, false, false, 0, 0, 0⟩, 0, 0, 0, 0, 0, 0⟩

/-- Every register of `RsRegs` at its reset value (10_state R85). -/
def RsRegs.reset : RsRegs := ⟨0, 0, 0, 0, 0, 0, 0, 0, 0⟩

/-- `RS_ACT0` and `RS_ACT1` at their reset values (10_state R85). -/
def RsActive.reset : RsActive := ⟨0, 0, 0, 0, 0, 0⟩

/-- The result registers at their reset values (10_state R85). -/
def ResultRegs.reset : ResultRegs := ⟨0, 0, 0, 0, 0, 0, 0, 0, 0, ⟨0, 0, 0, 0, 0, 0, 0, 0⟩⟩

/-- The machine right after hard reset (70_reset_and_hazards R750, 10_state R85 and R86): every register at the value
the spec states, the latch empty, every buffer unspecified (free values of draw 0), and no event pending. -/
def State.reset : State where
  ctrl := ⟨false, false⟩
  done := false
  err := false
  cmdReject := false
  busViol := false
  rsReady := false
  pipeSym := .noSym
  pipeStage := .noStage
  errCode := 0
  errDetail := 0
  errIndex := 0xFFFFFFFF
  cfg := CfgRegs.reset
  rs := RsRegs.reset
  act := RsActive.reset
  outW := 0
  outH := 0
  res := ResultRegs.reset
  inBuf := ⟨[], .drawn 0⟩
  cw := ⟨[], .drawn 0⟩
  plan := ⟨[], .drawn 0⟩
  alphaTo := ⟨[], .drawn 0⟩
  indexOf := ⟨[], .drawn 0⟩
  genpoly := ⟨[], .drawn 0⟩
  mat := ⟨[], .drawn 0⟩
  latch := none
  rst := false
  draws := 1
  pending := []
  responses := []

end Sys2Proof.Machine
end

