-- ==== Sys2Proof/Machine/Ops.lean ====
section
/-! DEFINITION. The named operations on buffers and on the state that every rule shares: reading and writing
buffer entries (00_scope R14), accepting a command (40_control_pipeline R201), completing it (R203), the error outcome,
which is the SEC's one exception (60_exceptions R715), and hard reset (70_reset_and_hazards R750). -/

namespace Sys2Proof.Machine

/-! ### Buffers -/

/-- What an unlisted entry at a byte address holds (10_state R79, R86; log 4). -/
def Background.value (bg : Background) (address width : Nat) : BitVec width :=
  match bg with
  | .zero => 0
  | .drawn n => (Config.bufferDraw n address).setWidth width

namespace Buffer

variable {base size width : Nat}

/-- The cells from index `i` on. -/
def cellsFrom (b : Buffer base size width) (i : Nat) : List (Nat × BitVec width) :=
  b.cells.dropWhile fun c => c.1 < i

/-- `MemRead(buf, i)` (00_scope R14): the listed entry, else what an unlisted entry holds. -/
def get (b : Buffer base size width) (i : Nat) : BitVec width :=
  match b.cellsFrom i with
  | [] => b.background.value (base + 4 * i) width
  | (k, v) :: _ => if k = i then v else b.background.value (base + 4 * i) width

/-- The entries `i, i+1, …, i+n-1` read off a list of cells that holds none below `i`. -/
def slice (bg : Background) (base : Nat) : List (Nat × BitVec width) → Nat → Nat → List (BitVec width)
  | _, _, 0 => []
  | [], i, n + 1 => bg.value (base + 4 * i) width :: slice bg base [] (i + 1) n
  | (k, v) :: rest, i, n + 1 =>
    if k = i then v :: slice bg base (rest.dropWhile fun c => c.1 < i + 1) (i + 1) n
    else bg.value (base + 4 * i) width :: slice bg base ((k, v) :: rest) (i + 1) n

/-- `buf[i..i+n)` in one pass over the cells; entry by entry it is `get` (Laws.Buffer.range_eq). -/
def range (b : Buffer base size width) (i n : Nat) : List (BitVec width) :=
  slice b.background base (b.cellsFrom i) i n

/-- The cells that list the values `vs` from index `i` on: over a zero background a zero is not listed. -/
def listed (bg : Background) : Nat → List (BitVec width) → List (Nat × BitVec width)
  | _, [] => []
  | i, v :: vs => if bg = .zero ∧ v = 0 then listed bg (i + 1) vs else (i, v) :: listed bg (i + 1) vs

/-- `buf[i..i+|vs|) <- vs`. An entry at or above `size` does not exist and is not written. -/
def write (b : Buffer base size width) (i : Nat) (vs : List (BitVec width)) : Buffer base size width :=
  let kept := vs.take (size - i)
  { b with
    cells := (b.cells.takeWhile fun c => c.1 < i) ++ listed b.background i kept ++
      b.cellsFrom (i + kept.length) }

/-- `buf[i] <- v`, `MemWrite(buf, i, v)` (00_scope R14). -/
def set (b : Buffer base size width) (i : Nat) (v : BitVec width) : Buffer base size width := b.write i [v]

/-- Every entry 0 (10_state R79: a layout command first writes 0 to every entry of `MAT`). -/
def cleared : Buffer base size width := ⟨[], .zero⟩

/-- Every entry unspecified: the free values of draw `n` (10_state R86). -/
def unspecified (n : Nat) : Buffer base size width := ⟨[], .drawn n⟩

/-- The entries `i..i+n` as numbers. -/
def nats (b : Buffer base size width) (i n : Nat) : List Nat := (b.range i n).map BitVec.toNat

/-- Write numbers, each narrowed to the entry's width. -/
def writeNats (b : Buffer base size width) (i : Nat) (vs : List Nat) : Buffer base size width :=
  b.write i (vs.map (BitVec.ofNat width))

/-- The canonical form (log 3): indices strictly rising and below `size`, and no zero listed over a zero background. -/
abbrev wf (b : Buffer base size width) : Prop :=
  (b.cells.map Prod.fst).Pairwise (· < ·) ∧ (∀ c ∈ b.cells, c.1 < size) ∧
    (b.background = .zero → ∀ c ∈ b.cells, c.2 ≠ 0)

end Buffer

/-! ### The module matrix -/

/-- The entry of `MAT[r][c]` (20_memory R123). -/
def matIndex (r c : Nat) : Nat := 1024 * r + c

/-- One module: bit 0 `DARK`, bit 1 `FUNC` (10_state R79). -/
def moduleBits (dark func : Bool) : BitVec 2 := (BitVec.ofBool func) ++ (BitVec.ofBool dark)

/-- `MAT[r][0..)` for the rows of a symbol, the first at row `r`, written over a matrix; a row keeps to its 1024 columns. -/
def writeRows (m : MatBuffer) : Nat → List (List (BitVec 2)) → MatBuffer
  | _, [] => m
  | r, row :: rows => writeRows (m.write (matIndex r 0) (row.take 1024)) (r + 1) rows

/-- The matrix of a layout command: every entry 0, then the symbol at rows and columns 0 up (10_state R79). -/
def matOfRows (rows : List (List (BitVec 2))) : MatBuffer := writeRows Buffer.cleared 0 rows

/-- `MAT[0..h)[0..w)` by rows. -/
def matRows (m : MatBuffer) (h w : Nat) : List (List (BitVec 2)) :=
  (List.range h).map fun r => m.range (matIndex r 0) w

/-! ### Errors and the life cycle of a command -/

/-- `NONE` of `ERR_INDEX` (10_state R54). -/
def noIndex : Word := 0xFFFFFFFF

/-- The number of an error code (60_exceptions R701). -/
def ErrCode.number : ErrCode → Nat
  | .illegalCmd => 1
  | .sequence => 2
  | .config => 3
  | .capacity => 4
  | .charset => 5
  | .rsParam => 6
  | .rsNotReady => 7
  | .rsRange => 8

/-- An error that names no index (00_scope R15). -/
def errorAt (code : ErrCode) (detail : Nat) : CmdError := ⟨code, detail, noIndex⟩

/-- How a command's rule ends: with the state it left, or through `raise`, with the state its finished writes
left (00_scope R15, 60_exceptions R717). -/
inductive CmdResult where
  | ok (s : State)
  | raised (e : CmdError) (s : State)

/-- Run the next part of a rule, unless an error was raised. -/
def CmdResult.andThen (r : CmdResult) (f : State → CmdResult) : CmdResult :=
  match r with
  | .ok s => f s
  | .raised e s => .raised e s

/-- Acceptance of a command word (40_control_pipeline R201): the latch holds the word, so `BUSY = 1`. -/
def State.accept (s : State) (w : Word) : State :=
  { s with latch := some w, done := false, err := false, errCode := 0, errDetail := 0, errIndex := noIndex }

/-- Completion without error (40_control_pipeline R203): `DONE <- 1`, `BUSY <- 0`. -/
def State.complete (s : State) : State := { s with done := true, latch := none }

/-- The result registers that an error leaves unspecified, each a free value of draw `n` (10_state R73; log 5). -/
def drawnResults (n : Nat) : ResultRegs where
  cwTotal := (Config.resultDraw n 0x088).setWidth 13
  cwData := (Config.resultDraw n 0x08C).setWidth 13
  cwMsg := (Config.resultDraw n 0x090).setWidth 13
  selSize := (Config.resultDraw n 0x094).setWidth 16
  selEcl := (Config.resultDraw n 0x098).setWidth 4
  selMode := (Config.resultDraw n 0x0C8).setWidth 4
  planLen := (Config.resultDraw n 0x0C0).setWidth 13
  qrBits := (Config.resultDraw n 0x0C4).setWidth 16
  qrMaskSel := (Config.resultDraw n 0x09C).setWidth 3
  qrPenalty :=
    ⟨Config.resultDraw n 0x0A0, Config.resultDraw n 0x0A4, Config.resultDraw n 0x0A8, Config.resultDraw n 0x0AC,
     Config.resultDraw n 0x0B0, Config.resultDraw n 0x0B4, Config.resultDraw n 0x0B8, Config.resultDraw n 0x0BC⟩

/-- The error outcome (60_exceptions R715), the SEC's one exception: what the completing step does when a command
raises. It transfers control nowhere and there is no return from it (R735, R736). -/
def State.raise (s : State) (e : CmdError) : State :=
  { s with
    errCode := BitVec.ofNat 8 e.code.number
    errDetail := BitVec.ofNat 8 e.detail
    errIndex := e.index
    err := true
    pipeSym := .noSym
    pipeStage := .noStage
    outW := 0
    outH := 0
    res := drawnResults s.draws
    draws := s.draws + 1
    latch := none }

/-- Every entry of `ALPHA_TO`, `INDEX_OF` and `GENPOLY` becomes unspecified (10_state R78). -/
def State.dropTables (s : State) : State :=
  { s with
    alphaTo := Buffer.unspecified s.draws
    indexOf := Buffer.unspecified s.draws
    genpoly := Buffer.unspecified s.draws
    draws := s.draws + 1 }

/-- The error outcome when the command is `RS_INIT` (60_exceptions R715, 41_rs_engine R243). -/
def State.raiseRsInit (s : State) (e : CmdError) : State :=
  { (s.raise e).dropTables with rsReady := false, act := RsActive.reset }

/-- The completing step of a command whose rule has run (40_control_pipeline R203). -/
def CmdResult.finish (r : CmdResult) : State :=
  match r with
  | .ok s => s.complete
  | .raised e s => s.raise e

/-- The completing step of `RS_INIT`. -/
def CmdResult.finishRsInit (r : CmdResult) : State :=
  match r with
  | .ok s => s.complete
  | .raised e s => s.raiseRsInit e

/-- Every register of the map at its reset value (10_state R44, R85). -/
def State.resetRegisters (s : State) : State :=
  { s with
    ctrl := ⟨false, false⟩
    done := false
    err := false
    cmdReject := false
    busViol := false
    rsReady := false
    pipeSym := .noSym
    pipeStage := .noStage
    errCode := 0
    errDetail := 0
    errIndex := noIndex
    cfg := CfgRegs.reset
    rs := RsRegs.reset
    act := RsActive.reset
    outW := 0
    outH := 0
    res := ResultRegs.reset }

/-- Hard reset, when `rst` returns to 0 (70_reset_and_hazards R750): every register at its reset value, the latch empty, every
buffer entry drawn afresh. The host's own events and responses stay. -/
def State.hardReset (s : State) : State :=
  { s.resetRegisters.dropTables with
    inBuf := Buffer.unspecified s.draws
    cw := Buffer.unspecified s.draws
    plan := Buffer.unspecified s.draws
    mat := Buffer.unspecified s.draws
    latch := none
    rst := false }

end Sys2Proof.Machine
end

