-- ==== Sys2Proof/Machine/Flags.lean ====
section
/-! DEFINITION. The flags of the SEC are the bits of `STATUS` (10_state R42, R46); the SEC has no arithmetic condition
codes. This file holds the word `STATUS` reads as, its write-1-to-clear rule, and the interrupt line. -/

namespace Sys2Proof.Machine

/-- `STATUS.BUSY`: 1 from the acceptance of a command until its completion (10_state R47). -/
def State.busy (s : State) : Bool := s.latch.isSome

/-- The code of `PIPE_SYM` (10_state R51). -/
def PipeSym.code : PipeSym → BitVec 4
  | .noSym => 0
  | .dm => 1
  | .pdf => 2
  | .maxi => 3
  | .qr => 4

/-- The code of `PIPE_STAGE` (10_state R51). -/
def PipeStage.code : PipeStage → BitVec 4
  | .noStage => 0
  | .planned => 1
  | .produced => 2
  | .protectedCw => 3
  | .placed => 4
  | .masked => 5

/-- The word `STATUS` reads as (10_state R46). -/
def State.statusWord (s : State) : Word :=
  (0 : BitVec 16) ++ s.pipeStage.code ++ s.pipeSym.code ++ (0 : BitVec 2) ++ BitVec.ofBool s.rsReady ++
    BitVec.ofBool s.busViol ++ BitVec.ofBool s.cmdReject ++ BitVec.ofBool s.err ++ BitVec.ofBool s.done ++
    BitVec.ofBool s.busy

/-- A write to `STATUS` clears each W1C bit written as 1 and changes no other bit (10_state R46). -/
def State.writeStatus (s : State) (d : Word) : State :=
  { s with
    done := s.done && !d.getLsbD 1
    err := s.err && !d.getLsbD 2
    cmdReject := s.cmdReject && !d.getLsbD 3
    busViol := s.busViol && !d.getLsbD 4 }

/-- The interrupt output (60_exceptions R730, 10_state R84). -/
def State.irq (s : State) : Bool := (s.done && s.ctrl.ieDone) || (s.err && s.ctrl.ieErr)

/-- `STATUS.BUS_VIOL <- 1` (20_memory R130 to R132). -/
def State.violate (s : State) : State := { s with busViol := true }

/-- `STATUS.CMD_REJECT <- 1` (40_control_pipeline R202). -/
def State.rejectCommand (s : State) : State := { s with cmdReject := true }

/-- `PIPE_SYM <- 0; PIPE_STAGE <- 0` (10_state R60). -/
def State.clearPipe (s : State) : State := { s with pipeSym := .noSym, pipeStage := .noStage }

/-- `PIPE_SYM` and `PIPE_STAGE` after a successful pipeline command (40_control_pipeline R210). -/
def State.setPipe (s : State) (sym : PipeSym) (stage : PipeStage) : State :=
  { s with pipeSym := sym, pipeStage := stage }

end Sys2Proof.Machine
end

