-- ==== Sys2Proof/Machine/Operands.lean ====
section
/-! DEFINITION. Every register of the map 10_state R44: its offset, the word it reads as and what a write stores. A
command's operands are these registers (30_encoding R160). -/

namespace Sys2Proof.Machine

/-- The registers of 10_state R44. -/
inductive Reg where
  | id | ctrl | status | cmd | errCode | errIndex
  | inLen | symCfg | pdfGeom | maxiPostal | maxiScm
  | rsM | rsPoly | rsFcr | rsPrim | rsNroots | rsPad | rsSrc | rsLen | rsDst | rsAct0 | rsAct1
  | outW | outH | cwTotal | cwData | cwMsg | selSize | selEcl | qrMaskSel
  | qrPenalty (k : Fin 8)
  | planLen | qrBits | selMode
  deriving DecidableEq, Repr

/-- The byte offset of a register (10_state R44). -/
def Reg.offset : Reg → Nat
  | .id => 0x000
  | .ctrl => 0x004
  | .status => 0x008
  | .cmd => 0x00C
  | .errCode => 0x010
  | .errIndex => 0x014
  | .inLen => 0x018
  | .symCfg => 0x01C
  | .pdfGeom => 0x020
  | .maxiPostal => 0x024
  | .maxiScm => 0x028
  | .rsM => 0x040
  | .rsPoly => 0x044
  | .rsFcr => 0x048
  | .rsPrim => 0x04C
  | .rsNroots => 0x050
  | .rsPad => 0x054
  | .rsSrc => 0x058
  | .rsLen => 0x05C
  | .rsDst => 0x060
  | .rsAct0 => 0x064
  | .rsAct1 => 0x068
  | .outW => 0x080
  | .outH => 0x084
  | .cwTotal => 0x088
  | .cwData => 0x08C
  | .cwMsg => 0x090
  | .selSize => 0x094
  | .selEcl => 0x098
  | .qrMaskSel => 0x09C
  | .qrPenalty k => 0x0A0 + 4 * k.val
  | .planLen => 0x0C0
  | .qrBits => 0x0C4
  | .selMode => 0x0C8

/-- The address of a register (20_memory R124). -/
def Reg.address (r : Reg) : Address := BitVec.ofNat 24 r.offset

/-- The register at a byte offset, none where 10_state R44 lists none (20_memory R124). -/
def Reg.atOffset (o : Nat) : Option Reg :=
  match o with
  | 0x000 => some .id
  | 0x004 => some .ctrl
  | 0x008 => some .status
  | 0x00C => some .cmd
  | 0x010 => some .errCode
  | 0x014 => some .errIndex
  | 0x018 => some .inLen
  | 0x01C => some .symCfg
  | 0x020 => some .pdfGeom
  | 0x024 => some .maxiPostal
  | 0x028 => some .maxiScm
  | 0x040 => some .rsM
  | 0x044 => some .rsPoly
  | 0x048 => some .rsFcr
  | 0x04C => some .rsPrim
  | 0x050 => some .rsNroots
  | 0x054 => some .rsPad
  | 0x058 => some .rsSrc
  | 0x05C => some .rsLen
  | 0x060 => some .rsDst
  | 0x064 => some .rsAct0
  | 0x068 => some .rsAct1
  | 0x080 => some .outW
  | 0x084 => some .outH
  | 0x088 => some .cwTotal
  | 0x08C => some .cwData
  | 0x090 => some .cwMsg
  | 0x094 => some .selSize
  | 0x098 => some .selEcl
  | 0x09C => some .qrMaskSel
  | 0x0A0 => some (.qrPenalty 0)
  | 0x0A4 => some (.qrPenalty 1)
  | 0x0A8 => some (.qrPenalty 2)
  | 0x0AC => some (.qrPenalty 3)
  | 0x0B0 => some (.qrPenalty 4)
  | 0x0B4 => some (.qrPenalty 5)
  | 0x0B8 => some (.qrPenalty 6)
  | 0x0BC => some (.qrPenalty 7)
  | 0x0C0 => some .planLen
  | 0x0C4 => some .qrBits
  | 0x0C8 => some .selMode
  | _ => none

/-- `SYM_CFG` as a word, reserved bits 0 (10_state R56). -/
def SymCfg.toWord (c : SymCfg) : Word :=
  (0 : BitVec 8) ++ c.size ++ c.ecl ++ c.mode ++ (0 : BitVec 3) ++ BitVec.ofBool c.maxiLcReject ++
    BitVec.ofBool c.legacy144 ++ BitVec.ofBool c.trunc ++ BitVec.ofBool c.micro ++ BitVec.ofBool c.gs1

/-- `SYM_CFG` from a written word; reserved bits are dropped (10_state R56, 20_memory R133). -/
def SymCfg.ofWord (d : Word) : SymCfg where
  gs1 := d.getLsbD 0
  micro := d.getLsbD 1
  trunc := d.getLsbD 2
  legacy144 := d.getLsbD 3
  maxiLcReject := d.getLsbD 4
  mode := d.extractLsb' 8 4
  ecl := d.extractLsb' 12 4
  size := d.extractLsb' 16 8

/-- `QR_PENALTYk` (10_state R69). -/
def Penalties.get (p : Penalties) (k : Fin 8) : Word :=
  match k with
  | 0 => p.p0
  | 1 => p.p1
  | 2 => p.p2
  | 3 => p.p3
  | 4 => p.p4
  | 5 => p.p5
  | 6 => p.p6
  | 7 => p.p7

/-- The constant of `ID` (10_state R41). -/
def idWord : Word := 0x53454307

/-- The word a register reads as while the SEC is idle; reserved bits read 0 (10_state R44 to R72). -/
def State.regWord (s : State) (r : Reg) : Word :=
  match r with
  | .id => idWord
  | .ctrl => (BitVec.ofBool s.ctrl.ieErr ++ BitVec.ofBool s.ctrl.ieDone).setWidth 32
  | .status => s.statusWord
  | .cmd => 0
  | .errCode => (s.errDetail ++ s.errCode).setWidth 32
  | .errIndex => s.errIndex
  | .inLen => s.cfg.inLen.setWidth 32
  | .symCfg => s.cfg.symCfg.toWord
  | .pdfGeom => (s.cfg.cols ++ s.cfg.rows).setWidth 32
  | .maxiPostal => s.cfg.maxiPostal
  | .maxiScm => (s.cfg.service ++ s.cfg.country ++ s.cfg.xHi).setWidth 32
  | .rsM => s.rs.m.setWidth 32
  | .rsPoly => s.rs.poly.setWidth 32
  | .rsFcr => s.rs.fcr.setWidth 32
  | .rsPrim => s.rs.prim.setWidth 32
  | .rsNroots => s.rs.nroots.setWidth 32
  | .rsPad => s.rs.pad.setWidth 32
  | .rsSrc => s.rs.src.setWidth 32
  | .rsLen => s.rs.len.setWidth 32
  | .rsDst => s.rs.dst.setWidth 32
  | .rsAct0 => (s.act.prim ++ s.act.fcr ++ s.act.poly ++ s.act.m).setWidth 32
  | .rsAct1 => (s.act.pad ++ s.act.nroots).setWidth 32
  | .outW => s.outW.setWidth 32
  | .outH => s.outH.setWidth 32
  | .cwTotal => s.res.cwTotal.setWidth 32
  | .cwData => s.res.cwData.setWidth 32
  | .cwMsg => s.res.cwMsg.setWidth 32
  | .selSize => s.res.selSize.setWidth 32
  | .selEcl => s.res.selEcl.setWidth 32
  | .qrMaskSel => s.res.qrMaskSel.setWidth 32
  | .qrPenalty k => s.res.qrPenalty.get k
  | .planLen => s.res.planLen.setWidth 32
  | .qrBits => s.res.qrBits.setWidth 32
  | .selMode => s.res.selMode.setWidth 32

/-- A write to one of the host's RS registers: the implemented bits are stored, the others dropped (10_state R61, R62,
20_memory R133). The pipeline stage stays (10_state R60). -/
def State.writeRs (s : State) (r : RsRegs) : State := { s with rs := r }

/-- A write to an input or configuration register, which also clears the pipeline stage (10_state R60). -/
def State.writeCfg (s : State) (c : CfgRegs) : State := { s with cfg := c }.clearPipe

/-- A write to a register while the SEC is idle (10_state R44 to R62, 20_memory R131, R133); a read-only register sets
`BUS_VIOL`, and `CMD` accepts the word (40_control_pipeline R201). -/
def State.writeRegIdle (s : State) (r : Reg) (d : Word) : State :=
  match r with
  | .ctrl => { s with ctrl := ⟨d.getLsbD 0, d.getLsbD 1⟩ }
  | .status => s.writeStatus d
  | .cmd => s.accept d
  | .inLen => s.writeCfg { s.cfg with inLen := d.setWidth 13 }
  | .symCfg => s.writeCfg { s.cfg with symCfg := SymCfg.ofWord d }
  | .pdfGeom => s.writeCfg { s.cfg with rows := d.extractLsb' 0 8, cols := d.extractLsb' 8 8 }
  | .maxiPostal => s.writeCfg { s.cfg with maxiPostal := d }
  | .maxiScm => s.writeCfg
      { s.cfg with xHi := d.extractLsb' 0 4, country := d.extractLsb' 4 10, service := d.extractLsb' 14 10 }
  | .rsM => s.writeRs { s.rs with m := d.setWidth 4 }
  | .rsPoly => s.writeRs { s.rs with poly := d.setWidth 9 }
  | .rsFcr => s.writeRs { s.rs with fcr := d.setWidth 8 }
  | .rsPrim => s.writeRs { s.rs with prim := d.setWidth 8 }
  | .rsNroots => s.writeRs { s.rs with nroots := d.setWidth 10 }
  | .rsPad => s.writeRs { s.rs with pad := d.setWidth 8 }
  | .rsSrc => s.writeRs { s.rs with src := d.setWidth 12 }
  | .rsLen => s.writeRs { s.rs with len := d.setWidth 13 }
  | .rsDst => s.writeRs { s.rs with dst := d.setWidth 12 }
  | .id | .errCode | .errIndex | .rsAct0 | .rsAct1 | .outW | .outH | .cwTotal | .cwData | .cwMsg | .selSize
  | .selEcl | .qrMaskSel | .qrPenalty _ | .planLen | .qrBits | .selMode => s.violate

/-- A write to a register while `BUSY = 1` (20_memory R137, 40_control_pipeline R202): `CTRL` and `STATUS` as usual, `CMD`
rejected, any other dropped with `BUS_VIOL`. -/
def State.writeRegBusy (s : State) (r : Reg) (d : Word) : State :=
  match r with
  | .ctrl => { s with ctrl := ⟨d.getLsbD 0, d.getLsbD 1⟩ }
  | .status => s.writeStatus d
  | .cmd => s.rejectCommand
  | .id | .errCode | .errIndex | .inLen | .symCfg | .pdfGeom | .maxiPostal | .maxiScm
  | .rsM | .rsPoly | .rsFcr | .rsPrim | .rsNroots | .rsPad | .rsSrc | .rsLen | .rsDst | .rsAct0 | .rsAct1
  | .outW | .outH | .cwTotal | .cwData | .cwMsg | .selSize | .selEcl | .qrMaskSel | .qrPenalty _
  | .planLen | .qrBits | .selMode => s.violate

/-- The registers whose read is defined while `BUSY = 1` (20_memory R136). -/
def Reg.readableBusy (r : Reg) : Bool :=
  match r with
  | .id | .ctrl | .status | .cmd => true
  | .errCode | .errIndex | .inLen | .symCfg | .pdfGeom | .maxiPostal | .maxiScm
  | .rsM | .rsPoly | .rsFcr | .rsPrim | .rsNroots | .rsPad | .rsSrc | .rsLen | .rsDst | .rsAct0 | .rsAct1
  | .outW | .outH | .cwTotal | .cwData | .cwMsg | .selSize | .selEcl | .qrMaskSel | .qrPenalty _
  | .planLen | .qrBits | .selMode => false

/-! ### Operands as the commands read them -/

/-- `n`, the message length (10_state R55). -/
def State.n (s : State) : Nat := s.cfg.inLen.toNat
/-- The message `IN[0..n)` (10_state R75). -/
def State.message (s : State) : List Nat := s.inBuf.nats 0 s.n
/-- `SYM_CFG.MODE` (30_encoding R180). -/
def State.mode (s : State) : Nat := s.cfg.symCfg.mode.toNat
/-- `SYM_CFG.ECL` (30_encoding R181). -/
def State.ecl (s : State) : Nat := s.cfg.symCfg.ecl.toNat
/-- `SYM_CFG.SIZE` (30_encoding R182). -/
def State.size (s : State) : Nat := s.cfg.symCfg.size.toNat
/-- `SYM_CFG.GS1` (30_encoding R185). -/
def State.gs1 (s : State) : Bool := s.cfg.symCfg.gs1
/-- `SYM_CFG.MICRO` (30_encoding R185). -/
def State.micro (s : State) : Bool := s.cfg.symCfg.micro
/-- `PDF_GEOM.ROWS` (30_encoding R183). -/
def State.geomRows (s : State) : Nat := s.cfg.rows.toNat
/-- `PDF_GEOM.COLS` (30_encoding R183). -/
def State.geomCols (s : State) : Nat := s.cfg.cols.toNat
/-- `SEL_SIZE[7:0]` (10_state R67). -/
def State.selLow (s : State) : Nat := s.res.selSize.toNat % 256
/-- `SEL_SIZE[15:8]` (10_state R67). -/
def State.selHigh (s : State) : Nat := s.res.selSize.toNat / 256

end Sys2Proof.Machine
end

