-- ==== Sys2Proof/Machine/Bus.lean ====
section
/-! DEFINITION. The host's bus: address decoding, reads and writes (20_memory R120 to R138), and what the SEC does while
`rst` is high (70_reset_and_hazards R750). -/

namespace Sys2Proof.Machine

/-- What a word-aligned address of the map names (20_memory R122). -/
inductive Target where
  | reg (r : Reg)
  | inEntry (i : Nat)
  | cwEntry (i : Nat)
  | planEntry (i : Nat)
  | alphaEntry (i : Nat)
  | indexEntry (i : Nat)
  | genEntry (i : Nat)
  | matEntry (i : Nat)
  | unmapped
  deriving DecidableEq, Repr

/-- The address map of 20_memory R122 to R124, for a word-aligned address. -/
def targetOf (a : Nat) : Target :=
  if a < 0x100 then
    match Reg.atOffset a with
    | some r => .reg r
    | none => .unmapped
  else if 0x010000 ≤ a ∧ a < 0x014000 then .inEntry ((a - 0x010000) / 4)
  else if 0x020000 ≤ a ∧ a < 0x024000 then .cwEntry ((a - 0x020000) / 4)
  else if 0x030000 ≤ a ∧ a < 0x034004 then .planEntry ((a - 0x030000) / 4)
  else if 0x040000 ≤ a ∧ a < 0x040400 then .alphaEntry ((a - 0x040000) / 4)
  else if 0x040400 ≤ a ∧ a < 0x040800 then .indexEntry ((a - 0x040400) / 4)
  else if 0x040800 ≤ a ∧ a < 0x040C00 then .genEntry ((a - 0x040800) / 4)
  else if 0x100000 ≤ a ∧ a < 0x200000 then .matEntry ((a - 0x100000) / 4)
  else .unmapped

/-- The word a mapped target reads as while the SEC is idle: a buffer entry is zero-extended (20_memory R135). -/
def State.targetWord (s : State) (t : Target) : Word :=
  match t with
  | .reg r => s.regWord r
  | .inEntry i => (s.inBuf.get i).setWidth 32
  | .cwEntry i => (s.cw.get i).setWidth 32
  | .planEntry i => (s.plan.get i).setWidth 32
  | .alphaEntry i => (s.alphaTo.get i).setWidth 32
  | .indexEntry i => (s.indexOf.get i).setWidth 32
  | .genEntry i => (s.genpoly.get i).setWidth 32
  | .matEntry i => (s.mat.get i).setWidth 32
  | .unmapped => 0

/-- A read whose value is unspecified: a free value, one for each read (20_memory R136, 93_implementation_defined). -/
def State.drawnRead (s : State) : State × Word := ({ s with draws := s.draws + 1 }, Config.busDraw s.draws)

/-- One bus read: the state it leaves and the word it returns (20_memory R129 to R136). -/
def State.busRead (s : State) (a : Address) (be : ByteEnable) : State × Word :=
  if s.rst then s.drawnRead
  else if !busAccessLegal a be then (s.violate, 0)
  else
    match targetOf a.toNat with
    | .unmapped => (s.violate, 0)
    | .reg r => if s.busy && !r.readableBusy then s.drawnRead else (s, s.regWord r)
    | .inEntry i => if s.busy then s.drawnRead else (s, s.targetWord (.inEntry i))
    | .cwEntry i => if s.busy then s.drawnRead else (s, s.targetWord (.cwEntry i))
    | .planEntry i => if s.busy then s.drawnRead else (s, s.targetWord (.planEntry i))
    | .alphaEntry i => if s.busy then s.drawnRead else (s, s.targetWord (.alphaEntry i))
    | .indexEntry i => if s.busy then s.drawnRead else (s, s.targetWord (.indexEntry i))
    | .genEntry i => if s.busy then s.drawnRead else (s, s.targetWord (.genEntry i))
    | .matEntry i => if s.busy then s.drawnRead else (s, s.targetWord (.matEntry i))

/-- One bus write (20_memory R129 to R137). A write to `IN` clears the pipeline stage, a write to `CW` does not (10_state
R60, R76); `PLAN`, `GF` and `MAT` are read-only (20_memory R131). -/
def State.busWrite (s : State) (a : Address) (be : ByteEnable) (d : Word) : State :=
  if s.rst then s
  else if !busAccessLegal a be then s.violate
  else
    match targetOf a.toNat with
    | .reg r => if s.busy then s.writeRegBusy r d else s.writeRegIdle r d
    | .inEntry i => if s.busy then s.violate else { s with inBuf := s.inBuf.set i (d.setWidth 8) }.clearPipe
    | .cwEntry i => if s.busy then s.violate else { s with cw := s.cw.set i (d.setWidth 10) }
    | .planEntry _ | .alphaEntry _ | .indexEntry _ | .genEntry _ | .matEntry _ | .unmapped => s.violate

/-- The platform drives the `rst` pin (70_reset_and_hazards R750): the reset state holds when `rst` returns to 0. -/
def State.driveRst (s : State) (level : Bool) : State :=
  if level then { s with rst := true } else if s.rst then s.hardReset else s

end Sys2Proof.Machine
end

