-- ==== Sys2Proof/Machine/Control.lean ====
section
/-! DEFINITION. The control commands `NOP` and `SOFT_RESET` (40_control_pipeline R220, R221). -/

namespace Sys2Proof.Machine

/-- `NOP` (40_control_pipeline R220): no operation; completion sets `DONE`. -/
def execNop (s : State) : Host.Outcome State Fault Refusal := .next s.complete

/-- `SOFT_RESET` (40_control_pipeline R221): every register at its reset value, the `GF` tables unspecified, `IN`, `CW`,
`PLAN` and `MAT` kept; completion sets `DONE`. -/
def execSoftReset (s : State) : Host.Outcome State Fault Refusal := .next s.resetRegisters.dropTables.complete

end Sys2Proof.Machine
end

