-- ==== Sys2Proof/Machine/Bits.lean ====
section
/-! DEFINITION. Small helpers on numbers, bit strings and matrices that the command rules share (00_scope R11 to
R17). A codeword, a byte of the message and a module are natural numbers inside a command, as 00_scope R12 has
it ("on unbounded non-negative integers"), and are narrowed when a buffer entry is written. -/

namespace Sys2Proof.Machine

/-- `ceil(a/b)`, 00_scope R12. -/
def ceilDiv (a b : Nat) : Nat := (a + b - 1) / b

/-- `bits(v, n)`: the n-bit binary form, most significant bit first (00_scope R13). -/
def bitsMsb (v : Nat) : Nat → List Nat
  | 0 => []
  | n + 1 => v / 2 ^ n % 2 :: bitsMsb v n

/-- The number whose binary form, most significant bit first, is the given bit string. -/
def ofBitsMsb (bs : List Nat) : Nat := bs.foldl (fun acc b => 2 * acc + b) 0

/-- Cut a list into pieces of `k`, the last of which may be shorter; `fuel` bounds the number of pieces. -/
def chunksOf {α : Type} (k : Nat) : Nat → List α → List (List α)
  | 0, _ => []
  | fuel + 1, xs => match xs with
    | [] => []
    | x :: rest => (x :: rest).take k :: chunksOf k fuel ((x :: rest).drop k)

/-- `isDigit(b)`, 00_scope R17. -/
def isDigit (b : Nat) : Bool := 48 ≤ b && b ≤ 57
/-- `isUpper(b)`, 00_scope R17. -/
def isUpper (b : Nat) : Bool := 65 ≤ b && b ≤ 90
/-- `isLower(b)`, 00_scope R17. -/
def isLower (b : Nat) : Bool := 97 ≤ b && b ≤ 122

/-- The number that a string of decimal digit bytes writes. -/
def decimalValue (ds : List Nat) : Nat := ds.foldl (fun acc d => 10 * acc + (d - 48)) 0

/-- The lowest index whose element fails a test, with the first element at index `i`. -/
def firstFailing (ok : Nat → Bool) : List Nat → Nat → Option Nat
  | [], _ => none
  | b :: rest, i => if ok b then firstFailing ok rest (i + 1) else some i

/-- The maximal runs of equal keys, each with its values in order (00_scope R20, "Segment"). -/
def runsByKey {α : Type} : List (Nat × α) → List (Nat × List α)
  | [] => []
  | (k, v) :: rest =>
    match runsByKey rest with
    | [] => [(k, [v])]
    | (k', vs) :: more => if k = k' then (k, v :: vs) :: more else (k, [v]) :: (k', vs) :: more

/-- A matrix by rows, row 0 first. -/
abbrev Grid (α : Type) := List (List α)

/-- A grid of `rows × cols` equal cells. -/
def Grid.fill {α : Type} (rows cols : Nat) (v : α) : Grid α := List.replicate rows (List.replicate cols v)

/-- A grid given cell by cell. -/
def Grid.ofFn {α : Type} (rows cols : Nat) (f : Nat → Nat → α) : Grid α :=
  (List.range rows).map fun r => (List.range cols).map fun c => f r c

/-- The cell at a row and a column, `d` outside the grid. -/
def Grid.get {α : Type} (g : Grid α) (r c : Nat) (d : α) : α := (g.getD r []).getD c d

/-- The grid with one cell changed; a cell outside the grid changes nothing. -/
def Grid.set {α : Type} (g : Grid α) (r c : Nat) (v : α) : Grid α := g.modify r fun row => row.set c v

/-- The columns of a grid of `cols` columns. -/
def Grid.columns {α : Type} (g : Grid α) (cols : Nat) (d : α) : Grid α :=
  (List.range cols).map fun c => g.map fun row => row.getD c d

end Sys2Proof.Machine
end

