-- ==== Sys2Proof/Machine/OpenTables.lean ====
section
/-! DEFINITION. The OPEN tables of 92_eei_decisions section 8 in the shapes the rules use, built from the bodiless constants of
Config so that exactly the constraints the spec places on them hold and nothing else is known of them. -/

namespace Sys2Proof.Machine

open Sys2Proof.Config (MaxiSet)

/-! ### MicroPDF417 -/

/-- One row of `MPDF_VARIANTS` (45_pdf417_producer R431). -/
structure MicroVariant where
  cols : Nat
  rows : Nat
  ec : Nat
  deriving DecidableEq, Repr

/-- `cap = cols·rows − ec` (45_pdf417_producer R431). -/
def MicroVariant.cap (v : MicroVariant) : Nat := v.cols * v.rows - v.ec

/-- What 45_pdf417_producer R431 requires of a row: `cols` in 1..4, `cap ≥ 1`, `cols·rows ≤ 176`. -/
def MicroVariant.legal (v : MicroVariant) : Bool :=
  1 ≤ v.cols && v.cols ≤ 4 && v.ec < v.cols * v.rows && v.cols * v.rows ≤ 176

/-- The order of the table: `cap` ascending, ties by `cols` ascending (45_pdf417_producer R431). -/
def MicroVariant.before (v w : MicroVariant) : Bool :=
  v.cap < w.cap || (v.cap == w.cap && v.cols ≤ w.cols)

/-- Put a row at its place in an ordered table. -/
def MicroVariant.insert (v : MicroVariant) : List MicroVariant → List MicroVariant
  | [] => [v]
  | w :: ws => if v.before w then v :: w :: ws else w :: v.insert ws

/-- The legal rows of a list of candidates, in the order of the table. -/
def variantsOf (candidates : List (Nat × Nat × Nat)) : List MicroVariant :=
  ((candidates.map fun c => (⟨c.1, c.2.1, c.2.2⟩ : MicroVariant)).filter MicroVariant.legal).foldr
    MicroVariant.insert []

/-- `MPDF_VARIANTS` (45_pdf417_producer R431, OPEN D31; log 9). -/
def mpdfVariants : List MicroVariant := variantsOf Config.mpdfCandidates

/-- `LRAP(v, r)`, `CRAP(v, r)`, `RRAP(v, r)` as numbers of 10 bits, and the cluster `k(v, r)` (48_pdf417_layout R567, OPEN
D31; log 10). -/
def mpdfRap (v : MicroVariant) (r : Nat) : Nat × Nat × Nat × Nat :=
  let x := Config.mpdfRap v.cols v.rows v.ec r
  (x.1.toNat, x.2.1.toNat, x.2.2.1.toNat, x.2.2.2.val)

/-! ### PDF417 bar patterns -/

/-- `PAT[k][v]` (48_pdf417_layout R561, OPEN D36; log 11): 17 modules, leftmost first, a bar first and a space last. The
cluster is taken modulo 3 and the codeword modulo 929 (R560). -/
def pdfPattern (k v : Nat) : List Nat :=
  let inner := Config.pdfPatternInner ⟨k % 3, Nat.mod_lt _ (by decide)⟩ ⟨v % 929, Nat.mod_lt _ (by decide)⟩
  1 :: bitsMsb inner.toNat 15 ++ [0]

/-! ### MaxiCode -/

/-- `MVAL[s][b]` (46_maxicode_qr_producer R462, OPEN D34; log 12). -/
def maxiVal (s : MaxiSet) (b : Nat) : Option Nat := (Config.maxiVal s (BitVec.ofNat 8 b)).map BitVec.toNat

/-- `MLATCH[cur][t]` for `t` in A, B: 58 from B to A, the other OPEN (46_maxicode_qr_producer R462, D34). -/
def maxiLatch (t : MaxiSet) : Nat :=
  match t with
  | .a => 58
  | .b | .c | .d | .e => Config.maxiLatchAB.toNat

/-- `MSHIFT[s][t]` (46_maxicode_qr_producer R462, OPEN). -/
def maxiShift (s t : MaxiSet) : Nat := (Config.maxiShift s t).toNat

/-- The Numeric Shift codeword of sets A and B (46_maxicode_qr_producer R462, D34). -/
def maxiNumericShift : Nat := 31

/-- `MPAD` (46_maxicode_qr_producer R462, OPEN). -/
def maxiPad : Nat := Config.maxiPad.toNat

/-- What a cell of the 33 × 30 MaxiCode grid holds (47_dm_maxicode_layout R531, R532). -/
inductive MaxiCell where
  /-- the cell is `MAXI_MAP[p][j]` -/
  | codewordBit (p j : Nat)
  /-- the cell is in `MAXI_FIXED` -/
  | fixed
  /-- the cell is in neither table -/
  | unused
  deriving DecidableEq, Repr

/-- What the place of a cell in the order of log 13 makes of it. -/
def maxiCellOfPlace (q : Nat) : MaxiCell :=
  if q < 864 then .codewordBit (q / 6) (q % 6)
  else if h : q - 864 < 126 then (if Config.maxiFixedChoice ⟨q - 864, h⟩ then .fixed else .unused)
  else .unused

/-- The content of grid cell `(row, col)`, `row` in 0..32 and `col` in 0..29 (47_dm_maxicode_layout R531 to R533; log 13). -/
def maxiCellAt (row col : Nat) : MaxiCell :=
  if h : 30 * row + col < 990 then maxiCellOfPlace (Config.maxiCellOrder.symm ⟨30 * row + col, h⟩).val else .unused

/-- `MAXI_MAP[p][j]`, the cell of bit `5 − j` of codeword `p` (47_dm_maxicode_layout R531, OPEN D36; log 13). -/
def maxiMap (p : Fin 144) (j : Fin 6) : Nat × Nat :=
  let cell := (Config.maxiCellOrder ⟨6 * p.val + j.val, by omega⟩).val
  (cell / 30, cell % 30)

/-! ### Data Matrix -/

/-- `LEGACY144_PERM` (44_dm_producer R380, OPEN D24; log 8): position `i` takes what position `legacy144Source i` held. -/
def legacy144Source (i : Nat) : Nat :=
  if h : i < 2178 then (Config.legacy144Perm ⟨i, h⟩).val else i

end Sys2Proof.Machine
end

