-- ==== Sys2Proof/Machine/ConfigCheck.lean ====
section
/-! DEFINITION. `CheckConfig` (60_exceptions R720 to R725) and the frame every stage command shares: the sequence check, the
configuration check, the stage's own rule, and the pipeline stage it leaves (40_control_pipeline R210 to R212). -/

namespace Sys2Proof.Machine

/-- `if cond: raise Error(CONFIG, detail, NONE)`, else the checks that follow. -/
def configFail (cond : Bool) (detail : Nat) (next : Option CmdError) : Option CmdError :=
  if cond then some (errorAt .config detail) else next

/-- `CheckConfig(DM)` (60_exceptions R721). -/
def checkDm (s : State) : Option CmdError :=
  configFail (6 < s.mode) 3 <|
  configFail (30 < s.size) 4 <|
  configFail (s.ecl != 0) 5 <|
  configFail (s.gs1 && 1 < s.mode) 7 none

/-- Some row of `MPDF_VARIANTS` has the requested rows and, if given, columns (30_encoding R183). -/
def microVariantExists (rows cols : Nat) : Bool :=
  mpdfVariants.any fun v => v.rows == rows && (cols == 0 || v.cols == cols)

/-- `CheckConfig(PDF)` (60_exceptions R722). -/
def checkPdf (s : State) : Option CmdError :=
  let mic := s.micro
  let r := s.geomRows
  let c := s.geomCols
  configFail (3 < s.mode) 3 <|
  configFail (s.size != 0) 4 <|
  configFail (!mic && !(s.ecl ≤ 8 || s.ecl == 15)) 5 <|
  configFail (mic && !(s.ecl == 0 || s.ecl == 15)) 5 <|
  configFail (mic && s.cfg.symCfg.trunc) 6 <|
  configFail (!mic && ((1 ≤ r && r ≤ 2) || 90 < r || 30 < c || (r != 0 && c != 0 && 928 < r * c))) 6 <|
  configFail (mic && 4 < c) 6 <|
  configFail s.gs1 7 <|
  if mic then if r = 0 then none else configFail (!microVariantExists r c) 0x0A none else none

/-- `CheckConfig(MAXI)` (60_exceptions R723). -/
def checkMaxi (s : State) : Option CmdError :=
  configFail (s.mode != 0) 3 <|
  configFail (s.size < 2 || 6 < s.size) 4 <|
  configFail (s.ecl != 0) 5 <|
  configFail s.gs1 7 none

/-- `CheckConfig(QR)` (60_exceptions R724). -/
def checkQr (s : State) : Option CmdError :=
  configFail (3 < s.mode) 3 <|
  configFail (40 < s.size) 4 <|
  configFail (3 < s.ecl) 5 none

/-- The checks of one symbology. -/
def checkSym (sym : PipeSym) (s : State) : Option CmdError :=
  match sym with
  | .noSym => none
  | .dm => checkDm s
  | .pdf => checkPdf s
  | .maxi => checkMaxi s
  | .qr => checkQr s

/-- `CheckConfig(sym)` (60_exceptions R720): the common checks, then the symbology's. -/
def checkConfig (sym : PipeSym) (s : State) : Option CmdError :=
  configFail (s.n == 0) 1 <|
  configFail (Config.inMax < s.n) 2 <|
  checkSym sym s

/-- The configuration check, then a rule (40_control_pipeline R212). -/
def withConfig (sym : PipeSym) (rule : State → CmdResult) (s : State) : CmdResult :=
  match checkConfig sym s with
  | some e => .raised e s
  | none => rule s

/-- The sequence check (40_control_pipeline R210, R211), then a rule. -/
def withStage (sym : PipeSym) (stage : PipeStage) (rule : State → CmdResult) (s : State) : CmdResult :=
  if s.pipeSym = sym ∧ s.pipeStage = stage then rule s else .raised (errorAt .sequence 0) s

/-- A rule that leaves a pipeline stage when it succeeds (40_control_pipeline R210). -/
def leaving (sym : PipeSym) (stage : PipeStage) (rule : State → CmdResult) (s : State) : CmdResult :=
  (rule s).andThen fun t => .ok (t.setPipe sym stage)

/-- A first stage or a whole-pipeline command: no stage needed (40_control_pipeline R210, R212, R234). -/
def firstStage (sym : PipeSym) (leaves : PipeStage) (rule : State → CmdResult) (s : State) : State :=
  (withConfig sym (leaving sym leaves rule) s).finish

/-- A later stage: the stage it needs, the configuration, its rule (40_control_pipeline R210 to R212). -/
def laterStage (sym : PipeSym) (needs leaves : PipeStage) (rule : State → CmdResult) (s : State) : State :=
  (withStage sym needs (withConfig sym (leaving sym leaves rule)) s).finish

end Sys2Proof.Machine
end

