-- ==== Sys2Proof/Machine/DmTables.lean ====
section
/-! DEFINITION. The Data Matrix modes and the given values of the Data Matrix tables: mode-switch costs (42_dm_optimizer R291), C40,
Text and X12 values (44_dm_producer R366 to R368), symbol sizes (R360). The rest of the model reads them through `Tables`. -/

namespace Sys2Proof.Machine

/-- The six Data Matrix modes (42_dm_optimizer R289). -/
inductive DmMode where
  | ascii | c40 | text | x12 | edifact | base256
  deriving DecidableEq, Repr

/-- The index of a mode, which is its `PLAN` code (42_dm_optimizer R289, 30_encoding R184). -/
def DmMode.code : DmMode → Nat
  | .ascii => 0
  | .c40 => 1
  | .text => 2
  | .x12 => 3
  | .edifact => 4
  | .base256 => 5

/-- The mode of a `PLAN` code; a code above 5 is never written (30_encoding R184), and is read as Base256 (log 18). -/
def DmMode.ofCode (k : Nat) : DmMode :=
  match k with
  | 0 => .ascii
  | 1 => .c40
  | 2 => .text
  | 3 => .x12
  | 4 => .edifact
  | _ => .base256

/-- The modes in the order of 42_dm_optimizer R289. -/
def DmMode.all : List DmMode := [.ascii, .c40, .text, .x12, .edifact, .base256]

/-- `DM_SWITCH[from][to]` (42_dm_optimizer R291, 90_conflicts C1). -/
def dmSwitch (a b : DmMode) : Nat :=
  match a with
  | .ascii => if b = .ascii then 0 else 1
  | .base256 => if b = .base256 then 0 else 3
  | .c40 | .text | .x12 | .edifact =>
    if b = a then 0
    else
      match b with
      | .ascii | .base256 => 1
      | .c40 | .text | .x12 | .edifact => 2

/-- The Shift 2 characters of C40 and Text, value 0 first (44_dm_producer R366). -/
def shift2Chars : List Nat :=
  [33, 34, 35, 36, 37, 38, 39, 40, 41, 42, 43, 44, 45, 46, 47, 58, 59, 60, 61, 62, 63, 64, 91, 92, 93, 94, 95]

/-- The values of `DM_C40` for a byte below 128 (44_dm_producer R366). -/
def c40Low (b : Nat) : List Nat :=
  if b = 32 then [3]
  else if isDigit b then [b - 48 + 4]
  else if isUpper b then [b - 65 + 14]
  else if b < 32 then [0, b]
  else if shift2Chars.contains b then [1, shift2Chars.idxOf b]
  else [2, b - 96]

/-- The values of `DM_TEXT` for a byte below 128 (44_dm_producer R367). -/
def textLow (b : Nat) : List Nat :=
  if isLower b then [b - 97 + 14]
  else if b = 96 then [2, 0]
  else if isUpper b then [2, b - 65 + 1]
  else if 123 ≤ b then [2, b - 123 + 27]
  else c40Low b

/-- Upper Shift in front of the values of a byte from 128 on (44_dm_producer R366, R367). -/
def withUpperShift (low : Nat → List Nat) (b : Nat) : List Nat := if 128 ≤ b then [1, 30] ++ low (b - 128) else low b

/-- `DM_X12`, which is `X12(b)` (44_dm_producer R368). -/
def x12Value (b : Nat) : Option Nat :=
  if b = 13 then some 0
  else if b = 42 then some 1
  else if b = 62 then some 2
  else if b = 32 then some 3
  else if isDigit b then some (b - 48 + 4)
  else if isUpper b then some (b - 65 + 14)
  else none

/-- One row of `DM_SIZES` (44_dm_producer R360): the data regions (vertical × horizontal), the modules of one region, the data
and parity codewords and the blocks. -/
structure DmSize where
  regionsV : Nat
  regionsH : Nat
  regionRows : Nat
  regionCols : Nat
  data : Nat
  parity : Nat
  blocks : Nat
  deriving DecidableEq, Repr

/-- `DM_SIZES`, index 1 first (44_dm_producer R360). -/
def dmSizes : List DmSize :=
  [⟨1, 1, 8, 8, 3, 5, 1⟩, ⟨1, 1, 10, 10, 5, 7, 1⟩, ⟨1, 1, 12, 12, 8, 10, 1⟩,
   ⟨1, 1, 14, 14, 12, 12, 1⟩, ⟨1, 1, 16, 16, 18, 14, 1⟩, ⟨1, 1, 18, 18, 22, 18, 1⟩,
   ⟨1, 1, 20, 20, 30, 20, 1⟩, ⟨1, 1, 22, 22, 36, 24, 1⟩, ⟨1, 1, 24, 24, 44, 28, 1⟩,
   ⟨2, 2, 14, 14, 62, 36, 1⟩, ⟨2, 2, 16, 16, 86, 42, 1⟩, ⟨2, 2, 18, 18, 114, 48, 1⟩,
   ⟨2, 2, 20, 20, 144, 56, 1⟩, ⟨2, 2, 22, 22, 174, 68, 1⟩, ⟨2, 2, 24, 24, 204, 84, 2⟩,
   ⟨4, 4, 14, 14, 280, 112, 2⟩, ⟨4, 4, 16, 16, 368, 144, 4⟩, ⟨4, 4, 18, 18, 456, 192, 4⟩,
   ⟨4, 4, 20, 20, 576, 224, 4⟩, ⟨4, 4, 22, 22, 696, 272, 4⟩, ⟨4, 4, 24, 24, 816, 336, 6⟩,
   ⟨6, 6, 18, 18, 1050, 408, 6⟩, ⟨6, 6, 20, 20, 1304, 496, 8⟩, ⟨6, 6, 22, 22, 1558, 620, 10⟩,
   ⟨1, 1, 6, 16, 5, 7, 1⟩, ⟨1, 2, 6, 14, 10, 11, 1⟩, ⟨1, 1, 10, 24, 16, 14, 1⟩,
   ⟨1, 2, 10, 16, 22, 18, 1⟩, ⟨1, 2, 14, 16, 32, 24, 1⟩, ⟨1, 2, 14, 22, 49, 28, 1⟩]

/-- Rows of the mapping matrix (44_dm_producer R360). -/
def DmSize.mapRows (z : DmSize) : Nat := z.regionsV * z.regionRows
/-- Columns of the mapping matrix (44_dm_producer R360). -/
def DmSize.mapCols (z : DmSize) : Nat := z.regionsH * z.regionCols
/-- Rows of the symbol: each region has a frame one module wide (44_dm_producer R360, 47_dm_maxicode_layout R523). -/
def DmSize.rows (z : DmSize) : Nat := z.regionsV * (z.regionRows + 2)
/-- Columns of the symbol (44_dm_producer R360, 47_dm_maxicode_layout R523). -/
def DmSize.cols (z : DmSize) : Nat := z.regionsH * (z.regionCols + 2)

end Sys2Proof.Machine
end

