-- ==== Sys2Proof/Machine/PdfTables.lean ====
section
/-! DEFINITION. The PDF417 classes and Text submodes and the given values of the PDF417 tables: chunk thresholds
(43_pdf417_optimizer R333), submode values (45_pdf417_producer R421) and automatic levels (R428). The rest of the model reads them
through `Tables`. -/

namespace Sys2Proof.Machine

/-- The character classes, which are also the PDF417 modes (43_pdf417_optimizer R331). -/
inductive PdfClass where
  | numeric | text | byte
  deriving DecidableEq, Repr

/-- The `PLAN` code of a class (43_pdf417_optimizer R331, 30_encoding R184). -/
def PdfClass.code : PdfClass → Nat
  | .numeric => 1
  | .text => 2
  | .byte => 3

/-- The class of a `PLAN` code; a code that is none of 1, 2, 3 is never written (30_encoding R184), and is read as Byte
(log 18). -/
def PdfClass.ofCode (k : Nat) : PdfClass :=
  match k with
  | 1 => .numeric
  | 2 => .text
  | _ => .byte

/-- `PDF_CHUNK_THRESH` (43_pdf417_optimizer R333) for a chunk between neighbours `p` and `q`, `none` standing for edge;
0 when the chunk is never converted. -/
def pdfThreshold (kind : PdfClass) (p q : Option PdfClass) : Nat :=
  match kind, p, q with
  | .numeric, some .byte, some .byte => 8
  | .numeric, some .byte, none => 7
  | .numeric, none, some .byte => 7
  | .numeric, some .byte, some .text => 5
  | .numeric, some .text, some .byte => 4
  | .text, some .byte, some .byte => 5
  | .text, some .byte, none => 3
  | .text, none, some .byte => 3
  | .text, some .byte, some .numeric => 3
  | .text, some .numeric, some .byte => 3
  | _, _, _ => 0

/-- The four Text submodes (45_pdf417_producer R421). -/
inductive TextSub where
  | alpha | lower | mixed | punct
  deriving DecidableEq, Repr

/-- The bytes of the Mixed values 0 to 24 (45_pdf417_producer R421). -/
def mixedChars : List Nat :=
  [48, 49, 50, 51, 52, 53, 54, 55, 56, 57, 38, 13, 9, 44, 58, 35, 45, 46, 36, 47, 43, 37, 42, 61, 94]

/-- The bytes of the Punct values 0 to 28 (45_pdf417_producer R421). -/
def punctChars : List Nat :=
  [59, 60, 62, 64, 91, 92, 93, 95, 96, 126, 33, 13, 9, 44, 58, 10, 45, 46, 36, 47, 34, 124, 42, 40, 41, 63, 123, 125, 39]

/-- `valA(b)`, none when not `inA(b)` (45_pdf417_producer R421, R422). -/
def valA (b : Nat) : Option Nat := if isUpper b then some (b - 65) else if b = 32 then some 26 else none

/-- `valL(b)`, none when not `inL(b)` (45_pdf417_producer R421, R422). -/
def valL (b : Nat) : Option Nat := if isLower b then some (b - 97) else if b = 32 then some 26 else none

/-- `valM(b)`, none when not `inM(b)` (45_pdf417_producer R421, R422). -/
def valM (b : Nat) : Option Nat :=
  if b = 32 then some 26 else if mixedChars.contains b then some (mixedChars.idxOf b) else none

/-- `valP(b)`, none when not `inP(b)` (45_pdf417_producer R421, R422). -/
def valP (b : Nat) : Option Nat := if punctChars.contains b then some (punctChars.idxOf b) else none

/-- `PDF_TEXT_TABLES`: the value of a byte in a submode, none when the submode does not hold it (45_pdf417_producer R421). -/
def textTable (sub : TextSub) : Nat → Option Nat :=
  match sub with
  | .alpha => valA
  | .lower => valL
  | .mixed => valM
  | .punct => valP

/-- `PDF_AUTO_EC` (45_pdf417_producer R428). -/
def pdfAutoLevel (d : Nat) : Nat := if d ≤ 40 then 2 else if d ≤ 160 then 3 else if d ≤ 320 then 4 else 5

end Sys2Proof.Machine
end

