-- ==== Sys2Proof/Machine/Tables.lean ====
section
/-! DEFINITION. The given tables of 00_scope R9 as named arguments with their defaults, and what the commands look up in them. The OPEN
tables of the same rule are the constants of Config. -/

namespace Sys2Proof.Machine

/-- The tables that the SEC takes as configuration and that the spec gives a default for (00_scope R9, R10,
93_implementation_defined section 2). Every function that reads one takes them as an argument; the SEC that `exec` runs has the
defaults (log 17). -/
structure Tables where
  /-- `DM_SIZES`, index 1 first (44_dm_producer R360) -/
  dmSizes : List DmSize := Machine.dmSizes
  /-- `DM_SWITCH[from][to]` (42_dm_optimizer R291) -/
  dmSwitch : DmMode → DmMode → Nat := Machine.dmSwitch
  /-- `DM_C40`: the C40 values of a byte, Upper Shift included (44_dm_producer R366) -/
  dmC40 : Nat → List Nat := withUpperShift c40Low
  /-- `DM_TEXT`: the Text values of a byte, Upper Shift included (44_dm_producer R367) -/
  dmText : Nat → List Nat := withUpperShift textLow
  /-- `DM_X12`: the X12 value of a byte, if it has one (44_dm_producer R368) -/
  dmX12 : Nat → Option Nat := x12Value
  /-- `PDF_CHUNK_THRESH`: the threshold of a chunk between two neighbours (43_pdf417_optimizer R333) -/
  pdfChunkThresh : PdfClass → Option PdfClass → Option PdfClass → Nat := pdfThreshold
  /-- `PDF_TEXT_TABLES`: the value of a byte in a Text submode, if it has one (45_pdf417_producer R421) -/
  pdfTextTables : TextSub → Nat → Option Nat := textTable
  /-- `PDF_AUTO_EC`: the automatic level for a number of data codewords (45_pdf417_producer R428) -/
  pdfAutoEc : Nat → Nat := pdfAutoLevel
  /-- `QR_CAPACITY`, version 1 first, levels L, M, Q, H (46_maxicode_qr_producer R491) -/
  qrCapacity : List (List QrBlocks) := Machine.qrCapacity
  /-- `QR_ALIGN`, version 1 first (49_qr_layout_mask R603) -/
  qrAlign : List (List Nat) := qrAlignTable

/-- The tables with every default (00_scope R9). -/
def Tables.given : Tables := {}

/-- `Vals(m, b)` for the three triple-packed modes (44_dm_producer R366, R367, R369); a byte without an X12 value is never in an
X12 segment and counts as value 0 (log 18). -/
def dmValues (T : Tables) (m : DmMode) (b : Nat) : List Nat :=
  match m with
  | .c40 => T.dmC40 b
  | .text => T.dmText b
  | .x12 => [(T.dmX12 b).getD 0]
  | .ascii | .edifact | .base256 => []

/-- The row of an index 1 to 30; the indices outside the table are never selected (log 18). -/
def dmSize (T : Tables) (s : Nat) : DmSize := T.dmSizes.getD (s - 1) ⟨1, 1, 8, 8, 3, 5, 1⟩

/-- `QR_CAPACITY[v][lev]` for `v` in 1..40 and `lev` in 0..3; nothing outside the table is ever used (log 18). -/
def qrBlocks (T : Tables) (v lev : Nat) : QrBlocks := (T.qrCapacity.getD (v - 1) []).getD lev ⟨7, 1, 19, 0⟩

/-- `QR_ALIGN[v]`: the centre coordinates of the alignment patterns (49_qr_layout_mask R603). -/
def qrAlign (T : Tables) (v : Nat) : List Nat := T.qrAlign.getD (v - 1) []

end Sys2Proof.Machine
end

