-- ==== Sys2Proof/Machine/DmOptimizer.lean ====
section
/-! DEFINITION. The Data Matrix compaction-mode optimizer and `DM_OPTIMIZE` (42_dm_optimizer). A position of the message is
given by the bytes from it on, so `Unit(m, i)` is a function of `IN[i..n)`. -/

namespace Sys2Proof.Machine

/-- FNC1, the byte `'('` under `GS1 = 1` (44_dm_producer R363). -/
def isFnc1 (gs1 : Bool) (b : Nat) : Bool := gs1 && b == 40

/-- The ASCII unit (42_dm_optimizer R293). -/
def asciiUnit (bytes : List Nat) : Option (Nat × Nat) :=
  match bytes with
  | [] => none
  | [b] => if 128 ≤ b then some (1, 2) else some (1, 1)
  | b :: b2 :: _ =>
    if isDigit b && isDigit b2 then some (2, 1) else if 128 ≤ b then some (1, 2) else some (1, 1)

/-- The loop of the C40 and Text unit: `len` bytes and `tot` values so far (42_dm_optimizer R294). -/
def tripleUnit (T : Tables) (gs1 : Bool) (m : DmMode) : List Nat → Nat → Nat → Option (Nat × Nat)
  | [], _, _ => none
  | b :: rest, len, tot =>
    if isFnc1 gs1 b then none
    else
      let tot2 := tot + (dmValues T m b).length
      if tot2 % 3 = 0 then some (len + 1, 2 * tot2 / 3) else tripleUnit T gs1 m rest (len + 1) tot2

/-- The X12 unit (42_dm_optimizer R295). -/
def x12Unit (T : Tables) (bytes : List Nat) : Option (Nat × Nat) :=
  match bytes with
  | b0 :: b1 :: b2 :: _ =>
    if (T.dmX12 b0).isSome && (T.dmX12 b1).isSome && (T.dmX12 b2).isSome then some (3, 2) else none
  | _ => none

/-- A byte EDIFACT can encode (42_dm_optimizer R296, R302). -/
def inEdifact (b : Nat) : Bool := 32 ≤ b && b ≤ 94

/-- The EDIFACT unit (42_dm_optimizer R296). -/
def edifactUnit (gs1 : Bool) (bytes : List Nat) : Option (Nat × Nat) :=
  match bytes with
  | b0 :: b1 :: b2 :: b3 :: _ =>
    if [b0, b1, b2, b3].all fun b => inEdifact b && !isFnc1 gs1 b then some (4, 3) else none
  | _ => none

/-- The Base256 unit (42_dm_optimizer R297). -/
def base256Unit (gs1 : Bool) (bytes : List Nat) : Option (Nat × Nat) :=
  match bytes with
  | [] => none
  | b :: _ => if isFnc1 gs1 b then none else some (1, 1)

/-- `Unit(m, i)` for the bytes from position `i` on: the bytes consumed and the codewords emitted (42_dm_optimizer R292). -/
def dmUnit (T : Tables) (gs1 : Bool) (m : DmMode) (bytes : List Nat) : Option (Nat × Nat) :=
  match m with
  | .ascii => asciiUnit bytes
  | .c40 | .text => tripleUnit T gs1 m bytes 0 0
  | .x12 => x12Unit T bytes
  | .edifact => edifactUnit gs1 bytes
  | .base256 => base256Unit gs1 bytes

/-- `INF`, above every finite target (42_dm_optimizer R298). -/
def dmInf : Nat := 2 ^ 20

/-- `target[i][m]` and `source[i][m]` (42_dm_optimizer R298). -/
structure DmEntry where
  target : Nat
  source : Nat
  deriving DecidableEq, Repr

/-- The six entries of one position, in the order of the modes. -/
abbrev DmRow := List DmEntry

/-- The entry of a mode in a row. -/
def dmEntry (row : DmRow) (m : DmMode) : DmEntry := row.getD m.code ⟨dmInf, 0⟩

/-- `min over m2 of (DM_SWITCH[m][m2] + target[..][m2])` (42_dm_optimizer R298). -/
def dmBestNext (T : Tables) (row : DmRow) (m : DmMode) : Nat :=
  (DmMode.all.map fun m2 => T.dmSwitch m m2 + (dmEntry row m2).target).foldl min (2 * dmInf)

/-- The row past the end of the message: every target 0 (42_dm_optimizer R298, D18). -/
def dmEndRow : DmRow := DmMode.all.map fun _ => ⟨0, 0⟩

/-- One entry of the backward pass; `later` holds the rows from the next position on (42_dm_optimizer R298). -/
def dmBackwardEntry (T : Tables) (gs1 : Bool) (bytes : List Nat) (later : List DmRow) (m : DmMode) : DmEntry :=
  match dmUnit T gs1 m bytes with
  | none => ⟨dmInf, 0⟩
  | some (s, c) => ⟨c + dmBestNext T (later.getD (s - 1) dmEndRow) m, s⟩

/-- The backward pass: the rows of positions `i, i+1, …, n` (42_dm_optimizer R298). -/
def dmBackward (T : Tables) (gs1 : Bool) : List Nat → List DmRow
  | [] => [dmEndRow]
  | b :: rest =>
    let later := dmBackward T gs1 rest
    (DmMode.all.map (dmBackwardEntry T gs1 (b :: rest) later)) :: later

/-- The mode the forward pass takes at a position: the least cost, staying on a tie, else the lowest index (42_dm_optimizer
R300, D18). -/
def dmChoose (T : Tables) (row : DmRow) (cur : DmMode) : DmMode × Nat :=
  DmMode.all.foldl
    (fun best m =>
      let v := (dmEntry row m).target + T.dmSwitch cur m
      if v < best.2 then (m, v) else best)
    (cur, (dmEntry row cur).target)

/-- The forward pass over the rows of positions `p, …, n`; `skip` positions still belong to the unit chosen last
(42_dm_optimizer R300). -/
def dmForward (T : Tables) : List DmRow → DmMode → Nat → List DmMode
  | [], _, _ => []
  | [_], _, _ => []
  | row :: next :: rest, cur, skip =>
    match skip with
    | k + 1 => cur :: dmForward T (next :: rest) cur k
    | 0 =>
      let best := (dmChoose T row cur).1
      best :: dmForward T (next :: rest) best ((dmEntry row best).source - 1)

/-- The automatic plan `PLAN[0..n)` (42_dm_optimizer R298, R300); the start mode is ASCII. -/
def dmAutoPlan (T : Tables) (gs1 : Bool) (bytes : List Nat) : List DmMode := dmForward T (dmBackward T gs1 bytes) .ascii 0

/-- The length of the longest prefix whose C40 or Text values fill whole triples (42_dm_optimizer R302). -/
def dmTriplePrefix (T : Tables) (m : DmMode) : List Nat → Nat → Nat → Nat → Nat
  | [], _, _, last => last
  | b :: rest, k, tot, last =>
    let tot2 := tot + (dmValues T m b).length
    dmTriplePrefix T m rest (k + 1) tot2 (if tot2 % 3 = 0 then k + 1 else last)

/-- A forced mode over its first `last` bytes and ASCII over the rest (42_dm_optimizer R302). -/
def prefixPlan (m : DmMode) (last n : Nat) : List DmMode := List.replicate last m ++ List.replicate (n - last) .ascii

/-- The forced plan of mode `m`, or the `CHARSET` error (42_dm_optimizer R302). -/
def dmForcedPlan (T : Tables) (m : DmMode) (bytes : List Nat) : Except CmdError (List DmMode) :=
  let n := bytes.length
  match m with
  | .ascii => .ok (List.replicate n .ascii)
  | .c40 | .text => .ok (prefixPlan m (dmTriplePrefix T m bytes 0 0 0) n)
  | .x12 =>
    match firstFailing (fun b => (T.dmX12 b).isSome) bytes 0 with
    | some k => .error ⟨.charset, 4, BitVec.ofNat 32 k⟩
    | none => .ok (prefixPlan m (3 * (n / 3)) n)
  | .edifact =>
    match firstFailing inEdifact bytes 0 with
    | some k => .error ⟨.charset, 5, BitVec.ofNat 32 k⟩
    | none => .ok (prefixPlan m (4 * (n / 4)) n)
  | .base256 => .ok (List.replicate n .base256)

/-- The plan of a `MODE` code: 0 automatic, `f` in 1..6 forces mode `f − 1` (42_dm_optimizer R290, R302). -/
def dmPlan (T : Tables) (gs1 : Bool) (mode : Nat) (bytes : List Nat) : Except CmdError (List DmMode) :=
  if mode = 0 then .ok (dmAutoPlan T gs1 bytes) else dmForcedPlan T (DmMode.ofCode (mode - 1)) bytes

/-- The sentinel of `PLAN` (10_state R77). -/
def planSentinel : Nat := 0xF

/-- `PLAN[0..n)`, the sentinel and `PLAN_LEN` (10_state R70, R77). -/
def State.storePlan (s : State) (codes : List Nat) : State :=
  { s with
    plan := s.plan.writeNats 0 (codes ++ [planSentinel])
    res := { s.res with planLen := BitVec.ofNat 13 (codes.length + 1) } }

/-- The rule of the Data Matrix optimize stage (42_dm_optimizer R290, R303). -/
def dmOptimize (T : Tables) (s : State) : CmdResult :=
  if Config.maxByteCount < s.n then .raised (errorAt .capacity 1) s
  else
    match dmPlan T s.gs1 s.mode s.message with
    | .error e => .raised e s
    | .ok modes => .ok (s.storePlan (modes.map DmMode.code))

/-- `DM_OPTIMIZE` (42_dm_optimizer R290). -/
def execDmOptimize (s : State) : Host.Outcome State Fault Refusal := .next (firstStage .dm .planned (dmOptimize .given) s)

end Sys2Proof.Machine
end

