-- ==== Sys2Proof/Machine/Galois.lean ====
section
/-! DEFINITION. The arithmetic of the Reed-Solomon engines: the GF(2^m) tables, the generator and the LFSR division of
41_rs_engine R242 to R251, and the mod-929 arithmetic of R271 and R272, as functions on numbers. -/

namespace Sys2Proof.Machine

/-! ### GF(2^m) -/

/-- The tables while `BuildField` runs (41_rs_engine R242). -/
structure FieldBuild where
  alpha : List Nat
  index : List Nat
  sr : Nat
  deriving DecidableEq, Repr

/-- The next `sr` of `BuildField`: shift, reduce by the polynomial, keep m bits (41_rs_engine R242). -/
def nextShift (m poly sr : Nat) : Nat :=
  let sr2 := 2 * sr
  (if sr2.testBit m then sr2 ^^^ poly else sr2) % 2 ^ m

/-- One pass of the loop of `BuildField` (41_rs_engine R242). -/
def fieldStep (m poly : Nat) (f : FieldBuild) (i : Nat) : FieldBuild where
  index := f.index.set f.sr i
  alpha := f.alpha.set i f.sr
  sr := nextShift m poly f.sr

/-- The tables of `BuildField` before its loop: zeros, with the log of 0 at `A0 = NN` (41_rs_engine R242). -/
def fieldStart (m : Nat) : FieldBuild where
  alpha := List.replicate 256 0
  index := (List.replicate 256 0).set 0 (2 ^ m - 1)
  sr := 1

/-- `BuildField(m, poly)` (41_rs_engine R242); the tables are usable when `sr = 1` at the end. -/
def buildField (m poly : Nat) : FieldBuild :=
  (List.range (2 ^ m - 1)).foldl (fieldStep m poly) (fieldStart m)

/-- The check of `BuildField` (41_rs_engine R242, R243). -/
def FieldBuild.ok (f : FieldBuild) : Bool := f.sr == 1

/-- `alpha[modnn(index[a] + root)]`, the step `BuildGenerator` and the field product share (41_rs_engine R244, R245). -/
def mulByRoot (alpha index : List Nat) (nn root a : Nat) : Nat := alpha.getD ((index.getD a 0 + root) % nn) 0

/-- One factor of the generator: from the coefficients `g[0..i]` to `g[0..i+1]` (41_rs_engine R244). -/
def generatorStep (alpha index : List Nat) (nn : Nat) (g : List Nat) (root : Nat) : List Nat :=
  mulByRoot alpha index nn root (g.headD 0) ::
    List.zipWith (fun prev cur => if cur ≠ 0 then prev ^^^ mulByRoot alpha index nn root cur else prev) g g.tail ++ [1]

/-- The coefficients of the generator, `x^0` first (41_rs_engine R244). -/
def generatorCoeffs (alpha index : List Nat) (nn fcr prim nroots : Nat) : List Nat :=
  ((List.range nroots).map fun i => fcr * prim + i * prim).foldl (generatorStep alpha index nn) [1]

/-- `BuildGenerator`: the coefficients in log form, then zeros up to 256 entries (41_rs_engine R244). -/
def buildGenerator (alpha index : List Nat) (m fcr prim nroots : Nat) : List Nat :=
  let g := (generatorCoeffs alpha index (2 ^ m - 1) fcr prim nroots).map fun c => index.getD c 0
  g ++ List.replicate (256 - g.length) 0

/-- The field product of R245 for two factors given by their logs: 0 when a factor is 0, whose log is `NN` (41_rs_engine R242, R245). -/
def logProduct (alpha : List Nat) (nn la lb : Nat) : Nat := if la = nn ∨ lb = nn then 0 else alpha.getD ((la + lb) % nn) 0

/-- One data symbol of `LfsrParity`, as the pseudocode of 41_rs_engine R251 writes it; `taps` is `gen[nroots-1], …, gen[0]`. DESIGN
CHOICE (log 25): only the feedback is tested for 0, so a coefficient of the generator that is 0 adds `alpha[fb]`, though by R245 and R252
it would add nothing. -/
def lfsrStep (alpha index taps : List Nat) (nn : Nat) (par : List Nat) (d : Nat) : List Nat :=
  let fb := index.getD (d ^^^ par.headD 0) 0
  let shifted := par.tail ++ [0]
  if fb ≠ nn then List.zipWith (fun p g => p ^^^ alpha.getD ((fb + g) % nn) 0) shifted taps else shifted

/-- `LfsrParity(data, alpha, index, gen, NN, nroots)` (41_rs_engine R251): the first parity symbol sent comes first. -/
def lfsrParity (data alpha index gen : List Nat) (nn nroots : Nat) : List Nat :=
  data.foldl (lfsrStep alpha index (gen.take nroots).reverse nn) (List.replicate nroots 0)

/-- A fixed instance of the engine (41_rs_engine R260). -/
structure RsInstance where
  m : Nat
  poly : Nat
  fcr : Nat
  prim : Nat
  deriving DecidableEq, Repr

/-- `RS_DM` (41_rs_engine R260). -/
def rsDm : RsInstance := ⟨8, 0x12D, 1, 1⟩
/-- `RS_QR` (41_rs_engine R260). -/
def rsQr : RsInstance := ⟨8, 0x11D, 0, 1⟩
/-- `RS_MAXI` (41_rs_engine R260). -/
def rsMaxi : RsInstance := ⟨6, 0x43, 1, 1⟩

/-- The generator of an instance in log form, `gen[0..nroots]` (41_rs_engine R261). -/
def RsInstance.generator (inst : RsInstance) (nroots : Nat) : List Nat :=
  let f := buildField inst.m inst.poly
  buildGenerator f.alpha f.index inst.m inst.fcr inst.prim nroots

/-- `RsParity(inst, data, nroots)` for several blocks, with the instance's tables built once (41_rs_engine R260). -/
def rsParities (inst : RsInstance) (nroots : Nat) (blocks : List (List Nat)) : List (List Nat) :=
  let f := buildField inst.m inst.poly
  let gen := buildGenerator f.alpha f.index inst.m inst.fcr inst.prim nroots
  blocks.map fun data => lfsrParity data f.alpha f.index gen (2 ^ inst.m - 1) nroots

/-! ### GF(929) -/

/-- One factor `x − root` of `Gen929`: from the coefficients `g[0..i]` to `g[0..i+1]`, `x^0` first (41_rs_engine R271). -/
def gen929Step (g : List Nat) (root : Nat) : List Nat :=
  List.zipWith (fun prev cur => (prev + 929 - root * cur % 929) % 929) (0 :: g) (g ++ [0])

/-- `g(x) = ∏_{i=1}^{k} (x − 3^i) mod 929` with its leading 1 (41_rs_engine R271). -/
def gen929Full (k : Nat) : List Nat :=
  ((List.range k).map fun i => 3 ^ (i + 1) % 929).foldl gen929Step [1]

/-- `Gen929(k)`: the coefficients `a[0..k−1]`, the leading 1 dropped (41_rs_engine R271). -/
def gen929 (k : Nat) : List Nat := (gen929Full k).take k

/-- One data symbol of `Ecc929` (41_rs_engine R272). -/
def ecc929Step (a : List Nat) (e : List Nat) (d : Nat) : List Nat :=
  let t1 := (d + e.getLastD 0) % 929
  List.zipWith (fun prev aj => (prev + 929 - t1 * aj % 929) % 929) (0 :: e.dropLast) a

/-- `Ecc929(data, k)` (41_rs_engine R272). -/
def ecc929 (data : List Nat) (k : Nat) : List Nat :=
  ((data.foldl (ecc929Step (gen929 k)) (List.replicate k 0)).map fun x => (929 - x) % 929).reverse

end Sys2Proof.Machine
end

