-- ==== Sys2Proof/Machine/DmProducer.lean ====
section
/-! DEFINITION. The Data Matrix codeword producer `DM_PRODUCE` and error correction `DM_ECC` (44_dm_producer). -/

namespace Sys2Proof.Machine

/-- One byte that is not part of a digit pair (44_dm_producer R362). -/
def asciiOne (gs1 : Bool) (b : Nat) : List Nat :=
  if isFnc1 gs1 b then [232] else if 128 ≤ b then [235, b - 127] else [b + 1]

/-- An ASCII segment (44_dm_producer R362). -/
def asciiCodewords (gs1 : Bool) : List Nat → List Nat
  | [] => []
  | [b] => asciiOne gs1 b
  | b :: b2 :: rest =>
    if isDigit b && isDigit b2 then (130 + 10 * (b - 48) + (b2 - 48)) :: asciiCodewords gs1 rest
    else asciiOne gs1 b ++ asciiCodewords gs1 (b2 :: rest)

/-- Pack C40, Text or X12 values, three into two codewords (44_dm_producer R369). -/
def packTriples : List Nat → List Nat
  | v0 :: v1 :: v2 :: rest =>
    let v := 1600 * v0 + 40 * v1 + v2 + 1
    (v / 256) :: (v % 256) :: packTriples rest
  | _ => []

/-- Pack EDIFACT bytes, four into three codewords (44_dm_producer R370). -/
def packEdifact : List Nat → List Nat
  | b0 :: b1 :: b2 :: b3 :: rest =>
    let w := b0 % 64 * 2 ^ 18 + b1 % 64 * 2 ^ 12 + b2 % 64 * 2 ^ 6 + b3 % 64
    (w / 65536) :: (w / 256 % 256) :: (w % 256) :: packEdifact rest
  | _ => []

/-- The 255-state randomizer (44_dm_producer R372). -/
def rand255 (v p : Nat) : Nat :=
  let t := v + 149 * p % 255 + 1
  if 255 < t then t - 256 else t

/-- Randomize codewords, the first at 1-based position `p` of the whole sequence (44_dm_producer R371). -/
def randomize255 : List Nat → Nat → List Nat
  | [], _ => []
  | v :: vs, p => rand255 v p :: randomize255 vs (p + 1)

/-- The length header of a Base256 segment (44_dm_producer R371). -/
def base256Header (len : Nat) : List Nat := if len ≤ 249 then [len] else [len / 250 + 249, len % 250]

/-- The codewords of a segment when `emitted` codewords stand before them (44_dm_producer R362, R369 to R371). -/
def segmentCodewords (T : Tables) (gs1 : Bool) (m : DmMode) (bytes : List Nat) (emitted : Nat) : List Nat :=
  match m with
  | .ascii => asciiCodewords gs1 bytes
  | .c40 | .text | .x12 => packTriples (bytes.flatMap (dmValues T m))
  | .edifact => packEdifact bytes
  | .base256 => randomize255 (base256Header bytes.length ++ bytes) (emitted + 1)

/-- The unlatch from a mode to ASCII (44_dm_producer R373). -/
def dmUnlatch (cur : DmMode) : List Nat :=
  match cur with
  | .c40 | .text | .x12 => [254]
  | .edifact => [124]
  | .ascii | .base256 => []

/-- The latch from ASCII to a mode (44_dm_producer R373). -/
def dmLatch (m : DmMode) : List Nat :=
  match m with
  | .ascii => []
  | .c40 => [230]
  | .text => [239]
  | .x12 => [238]
  | .edifact => [240]
  | .base256 => [231]

/-- The codewords emitted so far and the current mode (44_dm_producer R373). -/
structure DmEmit where
  out : List Nat
  cur : DmMode
  deriving DecidableEq, Repr

/-- One segment: the switch, if the mode changes, then the segment's codewords (44_dm_producer R373). -/
def dmSegment (T : Tables) (gs1 : Bool) (e : DmEmit) (seg : Nat × List Nat) : DmEmit :=
  let m := DmMode.ofCode seg.1
  let switched := if m = e.cur then e.out else e.out ++ dmUnlatch e.cur ++ dmLatch m
  { out := switched ++ segmentCodewords T gs1 m seg.2 switched.length
    cur := if m = .base256 then .ascii else m }

/-- All segments of a plan over a message (44_dm_producer R373). -/
def dmSegments (T : Tables) (gs1 : Bool) (plan bytes : List Nat) : DmEmit :=
  (runsByKey (plan.zip bytes)).foldl (dmSegment T gs1) ⟨[], .ascii⟩

/-- Size selection (44_dm_producer R361). -/
def dmSelect (T : Tables) (size need : Nat) : Except CmdError Nat :=
  if size = 0 then
    match ((List.range 24).map (· + 1)).find? fun s => need ≤ (dmSize T s).data with
    | some s => .ok s
    | none => .error (errorAt .capacity 2)
  else if (dmSize T size).data < need then .error (errorAt .capacity 3)
  else .ok size

/-- The pad codeword at 1-based position `p`, but for the first pad (44_dm_producer R376). -/
def dmPad (p : Nat) : Nat :=
  let v := 129 + 149 * p % 253 + 1
  if 254 < v then v - 254 else v

/-- The unlatch at the end of data (44_dm_producer R374). -/
def dmEndOfData (e : DmEmit) (d : Nat) : List Nat := if e.out.length < d then e.out ++ dmUnlatch e.cur else e.out

/-- Padding to `d` codewords (44_dm_producer R376). -/
def dmPadTo (out : List Nat) (d : Nat) : List Nat :=
  let l := out.length
  out ++ (List.range (d - l)).map fun k => if k = 0 then 129 else dmPad (l + k + 1)

/-- The `D` data codewords of a size (44_dm_producer R374 to R376). -/
def dmDataCodewords (e : DmEmit) (d : Nat) : List Nat := dmPadTo (dmEndOfData e d) d

/-- The result registers a produce stage writes (10_state R66 to R68, R72). -/
def ResultRegs.produced (r : ResultRegs) (msg data total size ecl mode : Nat) : ResultRegs :=
  { r with
    cwMsg := BitVec.ofNat 13 msg
    cwData := BitVec.ofNat 13 data
    cwTotal := BitVec.ofNat 13 total
    selSize := BitVec.ofNat 16 size
    selEcl := BitVec.ofNat 4 ecl
    selMode := BitVec.ofNat 4 mode }

/-- What the segments of the stored plan emit (44_dm_producer R373, R375). -/
def State.dmEmitted (T : Tables) (s : State) : DmEmit := dmSegments T s.gs1 (s.plan.nats 0 s.n) s.message

/-- The rule of the Data Matrix produce stage (44_dm_producer R375). -/
def dmProduce (T : Tables) (s : State) : CmdResult :=
  let e := s.dmEmitted T
  match dmSelect T s.size e.out.length with
  | .error err => .raised err s
  | .ok size =>
    let z := dmSize T size
    .ok { s with
      cw := s.cw.writeNats 0 (dmDataCodewords e z.data)
      res := s.res.produced e.out.length z.data (z.data + z.parity) size 0 0 }

/-- `DM_PRODUCE` (44_dm_producer R375). -/
def execDmProduce (s : State) : Host.Outcome State Fault Refusal :=
  .next (laterStage .dm .planned .produced (dmProduce .given) s)

/-- Block `j` of `b`: every `b`-th codeword from the `j`-th on (44_dm_producer R390). -/
def everyNth (xs : List Nat) (j b : Nat) : List Nat :=
  ((List.range (ceilDiv (xs.length - j) b)).map fun k => xs.getD (j + k * b) 0)

/-- Interleave the parities of the blocks: position `k·b + j` holds symbol `k` of block `j` (44_dm_producer R390). -/
def interleave (blocks : List (List Nat)) (len : Nat) : List Nat :=
  (List.range len).flatMap fun k => blocks.map fun p => p.getD k 0

/-- The interleaved parity of the data codewords (44_dm_producer R390); only bits [7:0] of a codeword enter (D14). -/
def dmParity (z : DmSize) (data : List Nat) : List Nat :=
  let bytes := data.map (· % 256)
  let eb := z.parity / z.blocks
  interleave (rsParities rsDm eb ((List.range z.blocks).map fun j => everyNth bytes j z.blocks)) eb

/-- `LEGACY144_PERM` applied to the whole sequence (44_dm_producer R380). -/
def legacy144 (cws : List (BitVec 10)) : List (BitVec 10) :=
  (List.range cws.length).map fun i => cws.getD (legacy144Source i) 0

/-- The rule of the Data Matrix ECC stage (44_dm_producer R390). -/
def dmEcc (T : Tables) (s : State) : CmdResult :=
  let size := s.selLow
  let z := dmSize T size
  let cw := s.cw.writeNats z.data (dmParity z (s.cw.nats 0 z.data))
  .ok { s with
    cw := if s.cfg.symCfg.legacy144 ∧ size = 24 then cw.write 0 (legacy144 (cw.range 0 (z.data + z.parity))) else cw
    res := { s.res with cwTotal := BitVec.ofNat 13 (z.data + z.parity) } }

/-- `DM_ECC` (44_dm_producer R390). -/
def execDmEcc (s : State) : Host.Outcome State Fault Refusal := .next (laterStage .dm .produced .protectedCw (dmEcc .given) s)

end Sys2Proof.Machine
end

