-- ==== Sys2Proof/Machine/DmLayout.lean ====
section
/-! DEFINITION. The Data Matrix placement and `DM_LAYOUT` (47_dm_maxicode_layout R520 to R523). -/

namespace Sys2Proof.Machine

/-- The mapping matrix while the sweep runs, "unset" being none, and the number of the next codeword (47_dm_maxicode_layout
R522). -/
structure DmSweep where
  a : Grid (Option Nat)
  ch : Nat
  deriving DecidableEq, Repr

/-- The size of a mapping matrix and the codewords placed on it. -/
structure DmMapping where
  nrow : Nat
  ncol : Nat
  codewords : List Nat
  deriving DecidableEq, Repr

/-- The wrapping of `Module` (47_dm_maxicode_layout R521). -/
def dmWrap (nrow ncol : Nat) (r c : Int) : Int × Int :=
  let (r, c) := if r < 0 then (r + nrow, c + 4 - ((nrow + 4) % 8 : Nat)) else (r, c)
  if c < 0 then (r + 4 - ((ncol + 4) % 8 : Nat), c + ncol) else (r, c)

/-- `Module(r, c, ch, bit)` (47_dm_maxicode_layout R521). -/
def dmModule (k : DmMapping) (ch bit : Nat) (a : Grid (Option Nat)) (r c : Int) : Grid (Option Nat) :=
  let p := dmWrap k.nrow k.ncol r c
  a.set p.1.toNat p.2.toNat (some (k.codewords.getD (ch - 1) 0 / 2 ^ (8 - bit) % 2))

/-- Place bits `bit`, `bit+1`, … of a codeword on the modules of a list, in order (47_dm_maxicode_layout R521, R522). -/
def dmPlace (k : DmMapping) (ch : Nat) : Nat → List (Int × Int) → Grid (Option Nat) → Grid (Option Nat)
  | _, [], a => a
  | bit, p :: ps, a => dmPlace k ch (bit + 1) ps (dmModule k ch bit a p.1 p.2)

/-- The eight modules of a utah with its corner at `(r, c)` (47_dm_maxicode_layout R521). -/
def utahModules (r c : Int) : List (Int × Int) :=
  [(r - 2, c - 2), (r - 2, c - 1), (r - 1, c - 2), (r - 1, c - 1), (r - 1, c), (r, c - 2), (r, c - 1), (r, c)]

/-- The modules of `Corner(k, ch)` (47_dm_maxicode_layout R522). -/
def cornerModules (nrow ncol : Int) (k : Nat) : List (Int × Int) :=
  match k with
  | 1 => [(nrow - 1, 0), (nrow - 1, 1), (nrow - 1, 2), (0, ncol - 2), (0, ncol - 1), (1, ncol - 1), (2, ncol - 1), (3, ncol - 1)]
  | 2 => [(nrow - 3, 0), (nrow - 2, 0), (nrow - 1, 0), (0, ncol - 4), (0, ncol - 3), (0, ncol - 2), (0, ncol - 1), (1, ncol - 1)]
  | 3 => [(nrow - 3, 0), (nrow - 2, 0), (nrow - 1, 0), (0, ncol - 2), (0, ncol - 1), (1, ncol - 1), (2, ncol - 1), (3, ncol - 1)]
  | _ => [(nrow - 1, 0), (nrow - 1, ncol - 1), (0, ncol - 3), (0, ncol - 2), (0, ncol - 1), (1, ncol - 3), (1, ncol - 2), (1, ncol - 1)]

/-- Place the next codeword on eight modules. -/
def DmSweep.put (k : DmMapping) (st : DmSweep) (modules : List (Int × Int)) : DmSweep :=
  ⟨dmPlace k st.ch 1 modules st.a, st.ch + 1⟩

/-- The four corner tests at one turn of the sweep (47_dm_maxicode_layout R522). -/
def dmCorners (k : DmMapping) (st : DmSweep) (r c : Int) : DmSweep :=
  let corner (cond : Bool) (i : Nat) (st : DmSweep) : DmSweep :=
    if cond then st.put k (cornerModules k.nrow k.ncol i) else st
  corner (r == k.nrow + 4 && c == 2 && k.ncol % 8 == 0) 4 <|
  corner (r == k.nrow - 2 && c == 0 && k.ncol % 8 == 4) 3 <|
  corner (r == k.nrow - 2 && c == 0 && k.ncol % 4 != 0) 2 <|
  corner (r == k.nrow && c == 0) 1 st

/-- `A[r][c] unset`, for a position of the matrix. -/
def DmSweep.unset (st : DmSweep) (r c : Int) : Bool := (st.a.get r.toNat c.toNat (some 0)).isNone

/-- The loop up and to the right (47_dm_maxicode_layout R522). -/
def sweepUp (k : DmMapping) : Nat → DmSweep → Int → Int → DmSweep × Int × Int
  | 0, st, r, c => (st, r, c)
  | fuel + 1, st, r, c =>
    let st := if r < k.nrow && 0 ≤ c && st.unset r c then st.put k (utahModules r c) else st
    if 0 ≤ r - 2 && c + 2 < k.ncol then sweepUp k fuel st (r - 2) (c + 2) else (st, r - 2, c + 2)

/-- The loop down and to the left (47_dm_maxicode_layout R522). -/
def sweepDown (k : DmMapping) : Nat → DmSweep → Int → Int → DmSweep × Int × Int
  | 0, st, r, c => (st, r, c)
  | fuel + 1, st, r, c =>
    let st := if 0 ≤ r && c < k.ncol && st.unset r c then st.put k (utahModules r c) else st
    if r + 2 < k.nrow && 0 ≤ c - 2 then sweepDown k fuel st (r + 2) (c - 2) else (st, r + 2, c - 2)

/-- The outer loop of the sweep (47_dm_maxicode_layout R522); `fuel` bounds its turns, `line` those of each inner loop. -/
def sweepLoop (k : DmMapping) (line : Nat) : Nat → DmSweep → Int → Int → DmSweep
  | 0, st, _, _ => st
  | fuel + 1, st, r, c =>
    let st := dmCorners k st r c
    let (st, r, c) := sweepUp k line st r c
    let (st, r, c) := sweepDown k line st (r + 1) (c + 3)
    let (r, c) := (r + 3, c + 1)
    if r < k.nrow || c < k.ncol then sweepLoop k line fuel st r c else st

/-- The sweep over an unset matrix, before the last step (47_dm_maxicode_layout R522). -/
def dmSweep (k : DmMapping) : DmSweep :=
  sweepLoop k (k.nrow + k.ncol) (k.nrow + k.ncol) ⟨Grid.fill k.nrow k.ncol none, 1⟩ 4 0

/-- The last step of R522 fills the 2×2 block at the lower right when its corner is unset. -/
def dmCornerUnset (k : DmMapping) (st : DmSweep) : Bool := st.unset (k.nrow - 1 : Int) (k.ncol - 1 : Int)

/-- The last step of the placement (47_dm_maxicode_layout R522). -/
def dmFillCorner (k : DmMapping) (st : DmSweep) : Grid (Option Nat) :=
  if dmCornerUnset k st then
    (((st.a.set (k.nrow - 1) (k.ncol - 1) (some 1)).set (k.nrow - 2) (k.ncol - 2) (some 1)).set
      (k.nrow - 1) (k.ncol - 2) (some 0)).set (k.nrow - 2) (k.ncol - 1) (some 0)
  else st.a

/-- The module of a symbol at row `r`, column `c`: `DARK` and `FUNC` (47_dm_maxicode_layout R520, R523). The frame of each
region is the clock track on top and right and the solid edge at left and bottom. -/
def dmSymbolModule (z : DmSize) (a : Grid (Option Nat)) (filled : Bool) (r c : Nat) : BitVec 2 :=
  let dr := z.regionRows
  let dc := z.regionCols
  let kr := r % (dr + 2)
  let kc := c % (dc + 2)
  if kr = dr + 1 then moduleBits true true
  else if kc = 0 then moduleBits true true
  else if kr = 0 then moduleBits (kc % 2 == 0) true
  else if kc = dc + 1 then moduleBits (kr % 2 == 1) true
  else
    let mr := r / (dr + 2) * dr + (kr - 1)
    let mc := c / (dc + 2) * dc + (kc - 1)
    moduleBits ((a.get mr mc none).getD 0 == 1) (filled && z.mapRows ≤ mr + 2 && z.mapCols ≤ mc + 2)

/-- The rows of the symbol of a size for its codewords (47_dm_maxicode_layout R520 to R523). -/
def dmSymbol (z : DmSize) (codewords : List Nat) : List (List (BitVec 2)) :=
  let k : DmMapping := ⟨z.mapRows, z.mapCols, codewords⟩
  let st := dmSweep k
  Grid.ofFn z.rows z.cols (dmSymbolModule z (dmFillCorner k st) (dmCornerUnset k st))

/-- The matrix and the extent a layout command leaves (10_state R65, R79). -/
def State.layOut (s : State) (rows : List (List (BitVec 2))) (w h : Nat) : State :=
  { s with mat := matOfRows rows, outW := BitVec.ofNat 11 w, outH := BitVec.ofNat 9 h }

/-- The rule of the Data Matrix layout stage (47_dm_maxicode_layout R520); bits 8 and up of a codeword are ignored (D14). -/
def dmLayout (T : Tables) (s : State) : CmdResult :=
  let z := dmSize T s.selLow
  .ok (s.layOut (dmSymbol z ((s.cw.nats 0 (z.data + z.parity)).map (· % 256))) z.cols z.rows)

/-- `DM_LAYOUT` (47_dm_maxicode_layout R520). -/
def execDmLayout (s : State) : Host.Outcome State Fault Refusal :=
  .next (laterStage .dm .protectedCw .placed (dmLayout .given) s)

end Sys2Proof.Machine
end

