-- ==== Sys2Proof/Machine/Maxi.lean ====
section
/-! DEFINITION. The MaxiCode pipeline: the code-set scan, the primary and secondary messages, error correction and layout;
`MAXI_PRODUCE`, `MAXI_ECC` and `MAXI_LAYOUT` (46_maxicode_qr_producer R460 to R477, 47_dm_maxicode_layout R530 to R533). -/

namespace Sys2Proof.Machine

open Sys2Proof.Config (MaxiSet)

/-- `NS(d[0..9))`: the 30-bit value of nine digits as five codewords (46_maxicode_qr_producer R464). -/
def numericShift (digits : List Nat) : List Nat :=
  let x := decimalValue digits
  [x / 2 ^ 24 % 64, x / 2 ^ 18 % 64, x / 2 ^ 12 % 64, x / 2 ^ 6 % 64, x % 64]

/-- The first set in the order A, B, C, D, E that has a value for a byte, with that value (46_maxicode_qr_producer R463). -/
def maxiFirstSet (b : Nat) : Option (MaxiSet × Nat) :=
  [MaxiSet.a, .b, .c, .d, .e].findSome? fun t => (maxiVal t b).map fun v => (t, v)

/-- The codewords of one byte from the current set, and the set after it (46_maxicode_qr_producer R463). -/
def maxiByte (cur : MaxiSet) (b : Nat) : Option (List Nat × MaxiSet) :=
  match maxiVal cur b with
  | some v => some ([v], cur)
  | none =>
    match maxiFirstSet b with
    | none => none
    | some (t, v) =>
      match t with
      | .a | .b => some ([maxiLatch t, v], t)
      | .c | .d | .e => some ([maxiShift cur t, v], cur)

/-- The next nine bytes are digits (46_maxicode_qr_producer R463). -/
def nineDigits (bytes : List Nat) : Bool := 9 ≤ bytes.length && (bytes.take 9).all isDigit

/-- `MaxiCodewords` from position `i` on; `skip` bytes still belong to the Numeric Shift taken last
(46_maxicode_qr_producer R463, R468). -/
def maxiScan (rejectLower : Bool) : MaxiSet → Nat → Nat → List Nat → Except CmdError (List Nat)
  | _, _, _, [] => .ok []
  | cur, skip + 1, i, _ :: rest => maxiScan rejectLower cur skip (i + 1) rest
  | cur, 0, i, b :: rest =>
    if nineDigits (b :: rest) then
      match maxiScan rejectLower cur 8 (i + 1) rest with
      | .error e => .error e
      | .ok msg => .ok (maxiNumericShift :: numericShift ((b :: rest).take 9) ++ msg)
    else if rejectLower && isLower b then .error ⟨.charset, 0, BitVec.ofNat 32 i⟩
    else
      match maxiByte cur b with
      | none => .error ⟨.charset, 0, BitVec.ofNat 32 i⟩
      | some (cws, next) =>
        match maxiScan rejectLower next 0 (i + 1) rest with
        | .error e => .error e
        | .ok msg => .ok (cws ++ msg)

/-- `MaxiCodewords(IN[0..n))` (46_maxicode_qr_producer R463). -/
def maxiCodewords (rejectLower : Bool) (bytes : List Nat) : Except CmdError (List Nat) :=
  maxiScan rejectLower .a 0 0 bytes

/-- The primary message of modes 2 and 3 (46_maxicode_qr_producer R465). -/
def maxiStructured (mode postal xHi country service : Nat) : List Nat :=
  let x := xHi * 2 ^ 32 + postal
  let v := mode + x * 2 ^ 4 + country * 2 ^ 40 + service * 2 ^ 50
  (List.range 10).map fun i => v / 2 ^ (6 * i) % 64

/-- `S`, the secondary data codewords of a mode (46_maxicode_qr_producer R461). -/
def maxiSecondary (mode : Nat) : Nat := if mode = 5 then 68 else 84

/-- The parity codewords of each secondary block (46_maxicode_qr_producer R475). -/
def maxiBlockParity (mode : Nat) : Nat := if mode = 5 then 28 else 20

/-- A mode whose primary message is the structured carrier message (46_maxicode_qr_producer R466). -/
def maxiIsStructured (mode : Nat) : Bool := mode == 2 || mode == 3

/-- `cap`, the message capacity of a mode (46_maxicode_qr_producer R466). -/
def maxiCapacity (mode : Nat) : Nat := if maxiIsStructured mode then maxiSecondary mode else maxiSecondary mode + 9

/-- A list followed by `MPAD` up to a length (46_maxicode_qr_producer R466). -/
def maxiPadTo (n : Nat) (cws : List Nat) : List Nat := cws ++ List.replicate (n - cws.length) maxiPad

/-- The primary and the secondary message, one after the other (46_maxicode_qr_producer R466); `structured` is the primary
message of modes 2 and 3. -/
def maxiPlacement (mode : Nat) (structured msg : List Nat) : List Nat :=
  if maxiIsStructured mode then structured ++ maxiPadTo (maxiSecondary mode) msg
  else maxiPadTo (10 + maxiSecondary mode) (mode :: msg)

/-- The rule of `MAXI_PRODUCE` (46_maxicode_qr_producer R460). -/
def maxiProduce (s : State) : CmdResult :=
  let mode := s.size
  match maxiCodewords s.cfg.symCfg.maxiLcReject s.message with
  | .error e => .raised e s
  | .ok msg =>
    if maxiCapacity mode < msg.length then .raised (errorAt .capacity 3) s
    else
      let primary := maxiStructured mode s.cfg.maxiPostal.toNat s.cfg.xHi.toNat s.cfg.country.toNat s.cfg.service.toNat
      .ok { s with
        cw := s.cw.writeNats 0 (maxiPlacement mode primary msg)
        res := s.res.produced msg.length (10 + maxiSecondary mode) 144 mode (if mode = 5 then 1 else 0) 0 }

/-- `MAXI_PRODUCE` (46_maxicode_qr_producer R460). -/
def execMaxiProduce (s : State) : Host.Outcome State Fault Refusal := .next (firstStage .maxi .produced maxiProduce s)

/-- The 144 codewords of a symbol for its primary and secondary message (46_maxicode_qr_producer R461, R475). -/
def maxiProtect (mode : Nat) (p q : List Nat) : List Nat :=
  let halves := [everyNth q 0 2, everyNth q 1 2]
  let e := maxiBlockParity mode
  p ++ (rsParities rsMaxi 10 [p]).flatten ++ q ++ interleave (rsParities rsMaxi e halves) e

/-- The rule of `MAXI_ECC` (46_maxicode_qr_producer R475). -/
def maxiEcc (s : State) : CmdResult :=
  let mode := s.res.selSize.toNat
  let p := (s.cw.nats 0 10).map (· % 64)
  let q := (s.cw.nats 10 (maxiSecondary mode)).map (· % 64)
  .ok { s with cw := s.cw.writeNats 0 (maxiProtect mode p q), res := { s.res with cwTotal := 144 } }

/-- `MAXI_ECC` (46_maxicode_qr_producer R475). -/
def execMaxiEcc (s : State) : Host.Outcome State Fault Refusal :=
  .next (laterStage .maxi .produced .protectedCw maxiEcc s)

/-- The module of a grid cell (47_dm_maxicode_layout R530 to R532); bits 6 and up of a codeword are ignored. -/
def maxiModule (codewords : List Nat) (row col : Nat) : BitVec 2 :=
  match maxiCellAt row col with
  | .codewordBit p j => moduleBits (codewords.getD p 0 / 2 ^ (5 - j) % 2 == 1) false
  | .fixed => moduleBits true true
  | .unused => moduleBits false false

/-- The rule of `MAXI_LAYOUT`: the 33 × 30 grid (47_dm_maxicode_layout R530, R533). -/
def maxiLayout (s : State) : CmdResult :=
  .ok (s.layOut (Grid.ofFn 33 30 (maxiModule (s.cw.nats 0 144))) 30 33)

/-- `MAXI_LAYOUT` (47_dm_maxicode_layout R530). -/
def execMaxiLayout (s : State) : Host.Outcome State Fault Refusal :=
  .next (laterStage .maxi .protectedCw .placed maxiLayout s)

end Sys2Proof.Machine
end

