-- ==== Sys2Proof/Machine/PdfOptimizer.lean ====
section
/-! DEFINITION. The PDF417 compaction-mode optimizer and `PDF_OPTIMIZE` (43_pdf417_optimizer). -/

namespace Sys2Proof.Machine

/-- `Class(b)` (43_pdf417_optimizer R331). -/
def pdfClass (b : Nat) : PdfClass :=
  if isDigit b then .numeric
  else if b = 9 ∨ b = 10 ∨ b = 13 ∨ (32 ≤ b ∧ b ≤ 126) then .text
  else .byte

/-- A chunk: its class and its length (43_pdf417_optimizer R332). -/
abbrev PdfChunk := PdfClass × Nat

/-- Put a chunk in front of a chunk list, joined to its first chunk if the classes agree (43_pdf417_optimizer R332). -/
def pdfJoin (c : PdfChunk) : List PdfChunk → List PdfChunk
  | [] => [c]
  | d :: rest => if c.1 = d.1 then (d.1, c.2 + d.2) :: rest else c :: d :: rest

/-- `Merge(list)` (43_pdf417_optimizer R332). -/
def pdfMerge (chunks : List PdfChunk) : List PdfChunk := chunks.foldr pdfJoin []

/-- The chunk list of a message: the maximal runs of equal class (43_pdf417_optimizer R332). -/
def pdfChunks (bytes : List Nat) : List PdfChunk := pdfMerge (bytes.map fun b => (pdfClass b, 1))

/-- The class of the chunk before position `i` (43_pdf417_optimizer R334). -/
def pdfBefore (chunks : List PdfChunk) (i : Nat) : Option PdfClass :=
  if i = 0 then none else (chunks[i - 1]?).map Prod.fst

/-- One pass of `OptimizeChunks` from position `i` on (43_pdf417_optimizer R334). `fuel` bounds its turns: every turn moves one
chunk on or converts one and moves one back, so three turns a chunk are enough. -/
def pdfPass (T : Tables) (kind : PdfClass) : Nat → List PdfChunk → Nat → List PdfChunk
  | 0, chunks, _ => chunks
  | fuel + 1, chunks, i =>
    match chunks[i]? with
    | none => chunks
    | some (c, len) =>
      if c = kind ∧ len < T.pdfChunkThresh kind (pdfBefore chunks i) ((chunks[i + 1]?).map Prod.fst) then
        pdfPass T kind fuel (pdfMerge (chunks.set i (.byte, len))) (i - 1)
      else pdfPass T kind fuel chunks (i + 1)

/-- `OptimizeChunks(list)`: the numeric pass, then the text pass (43_pdf417_optimizer R334). -/
def pdfOptimizeChunks (T : Tables) (chunks : List PdfChunk) : List PdfChunk :=
  let numeric := pdfPass T .numeric (3 * chunks.length + 1) chunks 0
  pdfPass T .text (3 * numeric.length + 1) numeric 0

/-- The plan a chunk list stands for (43_pdf417_optimizer R330). -/
def pdfExpand (chunks : List PdfChunk) : List PdfClass := chunks.flatMap fun c => List.replicate c.2 c.1

/-- The automatic plan (43_pdf417_optimizer R330). -/
def pdfAutoPlan (T : Tables) (bytes : List Nat) : List PdfClass := pdfExpand (pdfOptimizeChunks T (pdfChunks bytes))

/-- The forced plan of a class, or the `CHARSET` error (43_pdf417_optimizer R335). -/
def pdfForcedPlan (f : PdfClass) (bytes : List Nat) : Except CmdError (List PdfClass) :=
  let plan := List.replicate bytes.length f
  match f with
  | .numeric =>
    match firstFailing isDigit bytes 0 with
    | some k => .error ⟨.charset, 1, BitVec.ofNat 32 k⟩
    | none => .ok plan
  | .text =>
    match firstFailing (fun b => pdfClass b != .byte) bytes 0 with
    | some k => .error ⟨.charset, 2, BitVec.ofNat 32 k⟩
    | none => .ok plan
  | .byte => .ok plan

/-- The plan of a `MODE` code: 0 automatic, 1 to 3 forced (43_pdf417_optimizer R330, R335). -/
def pdfPlan (T : Tables) (mode : Nat) (bytes : List Nat) : Except CmdError (List PdfClass) :=
  if mode = 0 then .ok (pdfAutoPlan T bytes) else pdfForcedPlan (PdfClass.ofCode mode) bytes

/-- The rule of the PDF417 optimize stage (43_pdf417_optimizer R330). -/
def pdfOptimize (T : Tables) (s : State) : CmdResult :=
  match pdfPlan T s.mode s.message with
  | .error e => .raised e s
  | .ok classes => .ok (s.storePlan (classes.map PdfClass.code))

/-- `PDF_OPTIMIZE` (43_pdf417_optimizer R330). -/
def execPdfOptimize (s : State) : Host.Outcome State Fault Refusal := .next (firstStage .pdf .planned (pdfOptimize .given) s)

end Sys2Proof.Machine
end

