-- ==== Sys2Proof/Machine/PdfProducer.lean ====
section
/-! DEFINITION. The PDF417 and MicroPDF417 codeword producer and error correction, `PDF_PRODUCE` and `PDF_ECC`
(45_pdf417_producer). -/

namespace Sys2Proof.Machine

/-! ### Text compaction -/

/-- The shift to Punct for one character, from A, L or M (45_pdf417_producer R422). A byte that is in no submode is never in a
Text segment, and counts as Punct value 0 (log 18). -/
def shiftPunct (T : Tables) (b : Nat) : List Nat := [29, (T.pdfTextTables .punct b).getD 0]

/-- One turn of `TextValues` (45_pdf417_producer R422): the values it emits, the submode after it, and whether it consumes the
byte. `next` is the byte after it. -/
def textTurn (T : Tables) (sub : TextSub) (b : Nat) (next : Option Nat) : List Nat × TextSub × Bool :=
  match sub with
  | .alpha =>
    match T.pdfTextTables .alpha b with
    | some v => ([v], .alpha, true)
    | none =>
      if (T.pdfTextTables .lower b).isSome then ([27], .lower, false)
      else if (T.pdfTextTables .mixed b).isSome then ([28], .mixed, false)
      else (shiftPunct T b, .alpha, true)
  | .lower =>
    match T.pdfTextTables .lower b with
    | some v => ([v], .lower, true)
    | none =>
      match T.pdfTextTables .alpha b with
      | some v => ([27, v], .lower, true)
      | none => if (T.pdfTextTables .mixed b).isSome then ([28], .mixed, false) else (shiftPunct T b, .lower, true)
  | .mixed =>
    match T.pdfTextTables .mixed b with
    | some v => ([v], .mixed, true)
    | none =>
      if (T.pdfTextTables .alpha b).isSome then ([28], .alpha, false)
      else if (T.pdfTextTables .lower b).isSome then ([27], .lower, false)
      else if (next.bind (T.pdfTextTables .punct)).isSome then ([25], .punct, false)
      else (shiftPunct T b, .mixed, true)
  | .punct =>
    match T.pdfTextTables .punct b with
    | some v => ([v], .punct, true)
    | none => ([29], .alpha, false)

/-- The turns that one byte takes; `fuel` bounds them, and three are enough (Punct to Alpha, Alpha to another submode, the
byte). -/
def textByte (T : Tables) : Nat → TextSub → Nat → Option Nat → List Nat × TextSub
  | 0, sub, _, _ => ([], sub)
  | fuel + 1, sub, b, next =>
    let t := textTurn T sub b next
    if t.2.2 then (t.1, t.2.1)
    else
      let rest := textByte T fuel t.2.1 b next
      (t.1 ++ rest.1, rest.2)

/-- The values of a Text segment from a submode on, before the odd-length pad (45_pdf417_producer R422). -/
def textValues (T : Tables) : TextSub → List Nat → List Nat
  | _, [] => []
  | sub, b :: rest =>
    let t := textByte T 3 sub b rest.head?
    t.1 ++ textValues T t.2 rest

/-- The codewords of a value list, two values a codeword, padded with 29 (45_pdf417_producer R422, R423). -/
def pairValues : List Nat → List Nat
  | [] => []
  | [v] => [30 * v + 29]
  | v :: w :: rest => (30 * v + w) :: pairValues rest

/-- `TextCodewords(seg)` (45_pdf417_producer R422, R423). -/
def textCodewords (T : Tables) (seg : List Nat) : List Nat := pairValues (textValues T .alpha seg)

/-! ### Numeric and Byte compaction -/

/-- The lowest `k` base-900 digits of a number, most significant first. -/
def base900 : Nat → Nat → List Nat
  | 0, _ => []
  | k + 1, x => base900 k (x / 900) ++ [x % 900]

/-- The base-900 digits of a number without leading zeros; 16 digits hold a group of 44 (45_pdf417_producer R424). -/
def base900Short (x : Nat) : List Nat := (base900 16 x).dropWhile (· = 0)

/-- A Numeric segment (45_pdf417_producer R424). -/
def numericCodewords (seg : List Nat) : List Nat :=
  902 :: (chunksOf 44 seg.length seg).flatMap fun g => base900Short (10 ^ g.length + decimalValue g)

/-- The 48-bit value of six bytes (45_pdf417_producer R425). -/
def base256Value (bytes : List Nat) : Nat := bytes.foldl (fun acc b => 256 * acc + b) 0

/-- A Byte segment (45_pdf417_producer R425). -/
def byteCodewords (seg : List Nat) : List Nat :=
  (if seg.length % 6 = 0 then 924 else 901) ::
    (chunksOf 6 seg.length seg).flatMap fun g => if g.length = 6 then base900 5 (base256Value g) else g

/-! ### The message -/

/-- One segment of the plan (45_pdf417_producer R426). -/
def pdfSegment (T : Tables) (first : Bool) (seg : Nat × List Nat) : List Nat :=
  match PdfClass.ofCode seg.1 with
  | .text => (if first then [] else [900]) ++ textCodewords T seg.2
  | .numeric => numericCodewords seg.2
  | .byte => byteCodewords seg.2

/-- The segments of a plan, each after the first told so (45_pdf417_producer R426). -/
def pdfSegments (T : Tables) : Bool → List (Nat × List Nat) → List Nat
  | _, [] => []
  | first, seg :: rest => pdfSegment T first seg ++ pdfSegments T false rest

/-- `msg` for a plan over a message (45_pdf417_producer R426). -/
def pdfMessage (T : Tables) (plan bytes : List Nat) : List Nat := pdfSegments T true (runsByKey (plan.zip bytes))

/-! ### Level and geometry -/

/-- The error-correction level (45_pdf417_producer R428, R430). -/
def pdfLevel (T : Tables) (ecl d : Nat) : Nat := if ecl ≤ 8 then ecl else T.pdfAutoEc d

/-- `r(c) = max(3, ceil(total / c))` (45_pdf417_producer R429). -/
def pdfRowsFor (total c : Nat) : Nat := max 3 (ceilDiv total c)

/-- The columns the automatic geometry takes (45_pdf417_producer R429). -/
def pdfAutoCols (total : Nat) : Option Nat :=
  let cols := (List.range 30).map (· + 1)
  let fits := fun c => decide (pdfRowsFor total c ≤ 90) && decide (pdfRowsFor total c * c ≤ Config.pdfMaxCw)
  match cols.find? fun c => fits c && decide (pdfRowsFor total c ≤ 3 * c) with
  | some c => some c
  | none => cols.find? fits

/-- Rows and columns of a PDF417 symbol for `total` codewords (45_pdf417_producer R429). -/
def pdfGeometry (rows cols total : Nat) : Except CmdError (Nat × Nat) :=
  if rows ≠ 0 ∧ cols ≠ 0 then
    if rows * cols < total then .error (errorAt .capacity 3) else .ok (rows, cols)
  else if cols ≠ 0 then
    let r := pdfRowsFor total cols
    if 90 < r ∨ Config.pdfMaxCw < r * cols then .error (errorAt .capacity 3) else .ok (r, cols)
  else if rows ≠ 0 then
    let c := ceilDiv total rows
    if 30 < c ∨ Config.pdfMaxCw < rows * c then .error (errorAt .capacity 3) else .ok (rows, c)
  else
    match pdfAutoCols total with
    | none => .error (errorAt .capacity 2)
    | some c => .ok (pdfRowsFor total c, c)

/-- The MicroPDF417 variant for a message of `len` codewords (45_pdf417_producer R432, R436). -/
def microVariant (rows cols len : Nat) : Except CmdError MicroVariant :=
  if Config.microMaxCw < len then .error (errorAt .capacity 4)
  else
    match mpdfVariants.find? fun v =>
        (cols == 0 || v.cols == cols) && (rows == 0 || v.rows == rows) && decide (len ≤ v.cap) with
    | some v => .ok v
    | none => .error (errorAt .capacity (if rows ≠ 0 ∨ cols ≠ 0 then 3 else 2))

/-- A list followed by pads 900 up to a length (45_pdf417_producer R427, R432). -/
def padTo (n : Nat) (cws : List Nat) : List Nat := cws ++ List.replicate (n - cws.length) 900

/-! ### The commands -/

/-- `msg` of the stored plan (45_pdf417_producer R426). -/
def State.pdfMsg (T : Tables) (s : State) : List Nat := pdfMessage T (s.plan.nats 0 s.n) s.message

/-- What a produce stage leaves: the data codewords at `CW[0..)` and the result registers. -/
def State.produced (s : State) (cws : List Nat) (msg total size ecl mode : Nat) : State :=
  { s with
    cw := s.cw.writeNats 0 cws
    res := s.res.produced msg cws.length total size ecl mode }

/-- `PDF_PRODUCE` with `MICRO = 0` (45_pdf417_producer R427, R430). -/
def pdfProduceFull (T : Tables) (s : State) : CmdResult :=
  let msg := s.pdfMsg T
  let d := msg.length + 1
  let level := pdfLevel T s.ecl d
  let e := 2 ^ (level + 1)
  match pdfGeometry s.geomRows s.geomCols (d + e) with
  | .error err => .raised err s
  | .ok (r, c) => .ok (s.produced (padTo (r * c - e) ((r * c - e) :: msg)) d (r * c) (r + 256 * c) level 0)

/-- `PDF_PRODUCE` with `MICRO = 1` (45_pdf417_producer R430, R432). -/
def pdfProduceMicro (T : Tables) (s : State) : CmdResult :=
  let msg := s.pdfMsg T
  match microVariant s.geomRows s.geomCols msg.length with
  | .error err => .raised err s
  | .ok v => .ok (s.produced (padTo v.cap msg) msg.length (v.cols * v.rows) (v.rows + 256 * v.cols) 0 0)

/-- The rule of the PDF417 produce stage (45_pdf417_producer R430). -/
def pdfProduce (T : Tables) (s : State) : CmdResult := if s.micro then pdfProduceMicro T s else pdfProduceFull T s

/-- `PDF_PRODUCE` (45_pdf417_producer R430). -/
def execPdfProduce (s : State) : Host.Outcome State Fault Refusal :=
  .next (laterStage .pdf .planned .produced (pdfProduce .given) s)

/-- The number of parity codewords, `CW_TOTAL − CW_DATA` (45_pdf417_producer R445). -/
def State.parityCount (s : State) : Nat := s.res.cwTotal.toNat - s.res.cwData.toNat

/-- The rule of the PDF417 ECC stage (45_pdf417_producer R445). -/
def pdfEcc (s : State) : CmdResult :=
  let n := s.res.cwData.toNat
  .ok { s with cw := s.cw.writeNats n (ecc929 (s.cw.nats 0 n) s.parityCount) }

/-- `PDF_ECC` (45_pdf417_producer R445). -/
def execPdfEcc (s : State) : Host.Outcome State Fault Refusal := .next (laterStage .pdf .produced .protectedCw pdfEcc s)

end Sys2Proof.Machine
end

