-- ==== Sys2Proof/Machine/PdfLayout.lean ====
section
/-! DEFINITION. The PDF417 and MicroPDF417 layout and `PDF_LAYOUT` (48_pdf417_layout). -/

namespace Sys2Proof.Machine

/-- `START` (48_pdf417_layout R562). -/
def pdfStart : List Nat := [1, 1, 1, 1, 1, 1, 1, 1, 0, 1, 0, 1, 0, 1, 0, 0, 0]

/-- `STOP` (48_pdf417_layout R562). -/
def pdfStop : List Nat := [1, 1, 1, 1, 1, 1, 1, 0, 1, 0, 0, 0, 1, 0, 1, 0, 0, 1]

/-- `STOP_T` (48_pdf417_layout R562). -/
def pdfStopT : List Nat := [1]

/-- The left and the right row indicator (48_pdf417_layout R563). -/
def pdfIndicators (rows cols level r : Nat) : Nat × Nat :=
  let base := 30 * (r / 3)
  if r % 3 = 0 then (base + (rows - 1) / 3, base + cols - 1)
  else if r % 3 = 1 then (base + 3 * level + (rows - 1) % 3, base + (rows - 1) / 3)
  else (base + cols - 1, base + 3 * level + (rows - 1) % 3)

/-- Modules of a start, stop, row indicator or RAP pattern: `FUNC = 1` (48_pdf417_layout R560). -/
def funcModules (bits : List Nat) : List (BitVec 2) := bits.map fun b => moduleBits (b == 1) true

/-- Modules of codeword patterns: `FUNC = 0` (48_pdf417_layout R560). -/
def dataModules (bits : List Nat) : List (BitVec 2) := bits.map fun b => moduleBits (b == 1) false

/-- `CW[r·C .. r·C+C)` (48_pdf417_layout R564, R568). -/
def rowCodewords (cws : List Nat) (cols r : Nat) : List Nat := (cws.drop (r * cols)).take cols

/-- Row `r` of PDF417, or of truncated PDF417 (48_pdf417_layout R564, R565). -/
def pdfRow (truncated : Bool) (rows cols level : Nat) (cws : List Nat) (r : Nat) : List (BitVec 2) :=
  let k := r % 3
  let ind := pdfIndicators rows cols level r
  funcModules (pdfStart ++ pdfPattern k ind.1) ++ dataModules ((rowCodewords cws cols r).flatMap (pdfPattern k)) ++
    funcModules (if truncated then pdfStopT else pdfPattern k ind.2 ++ pdfStop)

/-- Row `r` of MicroPDF417 (48_pdf417_layout R568). With 3 or 4 columns the centre RAP stands before the last two codewords. -/
def microRow (v : MicroVariant) (cws : List Nat) (r : Nat) : List (BitVec 2) :=
  let rap := mpdfRap v r
  let patterns := (rowCodewords cws v.cols r).map (pdfPattern rap.2.2.2)
  let centre := if v.cols ≤ 2 then [] else bitsMsb rap.2.1 10
  let split := v.cols - 2
  let body :=
    if v.cols ≤ 2 then dataModules patterns.flatten
    else dataModules (patterns.take split).flatten ++ funcModules centre ++ dataModules (patterns.drop split).flatten
  funcModules (bitsMsb rap.1 10) ++ body ++ funcModules (bitsMsb rap.2.2.1 10 ++ pdfStopT)

/-- The variant a MicroPDF417 symbol was produced with: rows and columns from `SEL_SIZE`, the parity count from `CW_TOTAL` and
`CW_DATA` (45_pdf417_producer R430; log 10). -/
def State.microVariant (s : State) : MicroVariant := ⟨s.selHigh, s.selLow, s.parityCount⟩

/-- The width of a row (48_pdf417_layout R564, R565, R568). -/
def State.pdfWidth (s : State) : Nat :=
  let c := s.selHigh
  if s.micro then (if c ≤ 2 then 17 * c + 21 else 17 * c + 31)
  else if s.cfg.symCfg.trunc then 17 * (c + 2) + 1
  else 17 * (c + 4) + 1

/-- The rows of the symbol (48_pdf417_layout R560). -/
def State.pdfRows (s : State) : List (List (BitVec 2)) :=
  let rows := s.selLow
  let cws := s.cw.nats 0 s.res.cwTotal.toNat
  (List.range rows).map fun r =>
    if s.micro then microRow s.microVariant cws r
    else pdfRow s.cfg.symCfg.trunc rows s.selHigh s.res.selEcl.toNat cws r

/-- The rule of the PDF417 layout stage (48_pdf417_layout R560). -/
def pdfLayout (s : State) : CmdResult := .ok (s.layOut s.pdfRows s.pdfWidth s.selLow)

/-- `PDF_LAYOUT` (48_pdf417_layout R560). -/
def execPdfLayout (s : State) : Host.Outcome State Fault Refusal :=
  .next (laterStage .pdf .protectedCw .placed pdfLayout s)

end Sys2Proof.Machine
end

