-- ==== Sys2Proof/Machine/QrProducer.lean ====
section
/-! DEFINITION. The QR codeword producer and error correction, `QR_PRODUCE` and `QR_ECC` (46_maxicode_qr_producer R490 to
R507). -/

namespace Sys2Proof.Machine

/-- The QR modes (46_maxicode_qr_producer R492). -/
inductive QrMode where
  | numeric | alnum | byte
  deriving DecidableEq, Repr

/-- The mode code of `SEL_MODE` and `SYM_CFG.MODE` (46_maxicode_qr_producer R490, R492). -/
def QrMode.code : QrMode → Nat
  | .numeric => 1
  | .alnum => 2
  | .byte => 3

/-- `IN[k]` is in `ALNUM` (46_maxicode_qr_producer R492). -/
def isAlnum (b : Nat) : Bool := alnumChars.contains b

/-- The value of an alphanumeric character (46_maxicode_qr_producer R492). -/
def alnumValue (b : Nat) : Nat := alnumChars.idxOf b

/-- A mode forced on a message, or the `CHARSET` error at its first bad byte (46_maxicode_qr_producer R492). -/
def qrForced (m : QrMode) (ok : Nat → Bool) (detail : Nat) (bytes : List Nat) : Except CmdError QrMode :=
  match firstFailing ok bytes 0 with
  | some k => .error ⟨.charset, detail, BitVec.ofNat 32 k⟩
  | none => .ok m

/-- Mode selection (46_maxicode_qr_producer R492). -/
def qrMode (mode : Nat) (bytes : List Nat) : Except CmdError QrMode :=
  match mode with
  | 0 => .ok (if bytes.all isDigit then .numeric else if bytes.all isAlnum then .alnum else .byte)
  | 1 => qrForced .numeric isDigit 1 bytes
  | 2 => qrForced .alnum isAlnum 2 bytes
  | _ => .ok .byte

/-- `w(v)`, the width of the character count (46_maxicode_qr_producer R494). -/
def qrCountBits (m : QrMode) (v : Nat) : Nat :=
  match m with
  | .numeric => if v ≤ 9 then 10 else if v ≤ 26 then 12 else 14
  | .alnum => if v ≤ 9 then 9 else if v ≤ 26 then 11 else 13
  | .byte => if v ≤ 9 then 8 else 16

/-- The mode indicator (46_maxicode_qr_producer R494). -/
def qrIndicator (m : QrMode) : List Nat :=
  match m with
  | .numeric => [0, 0, 0, 1]
  | .alnum => [0, 0, 1, 0]
  | .byte => [0, 1, 0, 0]

/-- The header of a version (46_maxicode_qr_producer R494). -/
def qrHeader (gs1 : Bool) (m : QrMode) (v n : Nat) : List Nat :=
  (if gs1 then [0, 1, 0, 1] else []) ++ qrIndicator m ++ bitsMsb n (qrCountBits m v)

/-- The data bits of a Numeric message: three digits in 10 bits, two in 7, one in 4 (46_maxicode_qr_producer R495). -/
def qrNumericBits : List Nat → List Nat
  | [] => []
  | [a] => bitsMsb (decimalValue [a]) 4
  | [a, b] => bitsMsb (decimalValue [a, b]) 7
  | a :: b :: c :: rest => bitsMsb (decimalValue [a, b, c]) 10 ++ qrNumericBits rest

/-- The data bits of an Alnum message: a pair in 11 bits, a single character in 6 (46_maxicode_qr_producer R495). -/
def qrAlnumBits : List Nat → List Nat
  | [] => []
  | [a] => bitsMsb (alnumValue a) 6
  | a :: b :: rest => bitsMsb (45 * alnumValue a + alnumValue b) 11 ++ qrAlnumBits rest

/-- The data bits (46_maxicode_qr_producer R495). -/
def qrDataBits (m : QrMode) (bytes : List Nat) : List Nat :=
  match m with
  | .numeric => qrNumericBits bytes
  | .alnum => qrAlnumBits bytes
  | .byte => bytes.flatMap fun b => bitsMsb b 8

/-- The length of the data bits (46_maxicode_qr_producer R496). -/
def qrDataLength (m : QrMode) (n : Nat) : Nat :=
  match m with
  | .numeric => 10 * (n / 3) + [0, 4, 7].getD (n % 3) 0
  | .alnum => 11 * (n / 2) + 6 * (n % 2)
  | .byte => 8 * n

/-- `B(v)` (46_maxicode_qr_producer R496). -/
def qrLength (gs1 : Bool) (m : QrMode) (v n : Nat) : Nat :=
  (if gs1 then 4 else 0) + 4 + qrCountBits m v + qrDataLength m n

/-- `B(v) <= 8·D(v, lev)` (46_maxicode_qr_producer R493). -/
def qrFits (T : Tables) (gs1 : Bool) (m : QrMode) (lev n v : Nat) : Bool := qrLength gs1 m v n ≤ 8 * (qrBlocks T v lev).data

/-- Version selection (46_maxicode_qr_producer R493). -/
def qrVersion (T : Tables) (gs1 : Bool) (m : QrMode) (size lev n : Nat) : Except CmdError Nat :=
  if size = 0 then
    match ((List.range 40).map (· + 1)).find? (qrFits T gs1 m lev n) with
    | some v => .ok v
    | none => .error (errorAt .capacity 2)
  else if qrFits T gs1 m lev n size then .ok size
  else .error (errorAt .capacity 3)

/-- The pad codewords 0xEC, 0x11, 0xEC, … (46_maxicode_qr_producer R497). -/
def qrPads (count : Nat) : List Nat := (List.range count).map fun k => if k % 2 = 0 then 0xEC else 0x11

/-- Terminator, padding and split into `d` codewords (46_maxicode_qr_producer R497). -/
def qrPadded (bits : List Nat) (d : Nat) : List Nat :=
  let terminated := bits ++ List.replicate (min 4 (8 * d - bits.length)) 0
  let full := terminated ++ List.replicate (8 * ceilDiv terminated.length 8 - terminated.length) 0
  let cws := (chunksOf 8 full.length full).map ofBitsMsb
  cws ++ qrPads (d - cws.length)

/-- The data codewords of a message in a version (46_maxicode_qr_producer R494 to R497). -/
def qrCodewords (T : Tables) (gs1 : Bool) (m : QrMode) (v lev : Nat) (bytes : List Nat) : List Nat :=
  qrPadded (qrHeader gs1 m v bytes.length ++ qrDataBits m bytes) (qrBlocks T v lev).data

/-- The rule of `QR_PRODUCE` (46_maxicode_qr_producer R490). -/
def qrProduce (T : Tables) (s : State) : CmdResult :=
  match qrMode s.mode s.message with
  | .error e => .raised e s
  | .ok m =>
    match qrVersion T s.gs1 m s.size s.ecl s.n with
    | .error e => .raised e s
    | .ok v =>
      let b := qrLength s.gs1 m v s.n
      let q := qrBlocks T v s.ecl
      .ok { s with
        cw := s.cw.writeNats 0 (qrCodewords T s.gs1 m v s.ecl s.message)
        res := { s.res.produced (ceilDiv b 8) q.data q.total v s.ecl m.code with qrBits := BitVec.ofNat 16 b } }

/-- `QR_PRODUCE` (46_maxicode_qr_producer R490). -/
def execQrProduce (s : State) : Host.Outcome State Fault Refusal := .next (firstStage .qr .produced (qrProduce .given) s)

/-- Cut a list into blocks of the given lengths, in order (46_maxicode_qr_producer R505). -/
def splitBlocks : List Nat → List Nat → List (List Nat)
  | [], _ => []
  | len :: lens, xs => xs.take len :: splitBlocks lens (xs.drop len)

/-- The data interleave: the `i`-th codeword of every block that has one (46_maxicode_qr_producer R505). -/
def interleaveRagged (blocks : List (List Nat)) (len : Nat) : List Nat :=
  (List.range len).flatMap fun i => blocks.filterMap fun b => b[i]?

/-- The codewords of a symbol for its data codewords (46_maxicode_qr_producer R505). -/
def qrProtect (q : QrBlocks) (data : List Nat) : List Nat :=
  let blocks := splitBlocks q.lengths data
  interleaveRagged blocks (if q.g2 = 0 then q.d1 else q.d1 + 1) ++ interleave (rsParities rsQr q.e blocks) q.e

/-- The cell of `QR_CAPACITY` for `SEL_SIZE` and `SEL_ECL` (46_maxicode_qr_producer R505). -/
def State.qrSelected (T : Tables) (s : State) : QrBlocks := qrBlocks T s.res.selSize.toNat s.res.selEcl.toNat

/-- The rule of `QR_ECC` (46_maxicode_qr_producer R505). -/
def qrEcc (T : Tables) (s : State) : CmdResult :=
  let q := s.qrSelected T
  .ok { s with
    cw := s.cw.writeNats 0 (qrProtect q ((s.cw.nats 0 q.data).map (· % 256)))
    res := { s.res with cwTotal := BitVec.ofNat 13 q.total } }

/-- `QR_ECC` (46_maxicode_qr_producer R505). -/
def execQrEcc (s : State) : Host.Outcome State Fault Refusal := .next (laterStage .qr .produced .protectedCw (qrEcc .given) s)

end Sys2Proof.Machine
end

