-- ==== Sys2Proof/Machine/QrLayout.lean ====
section
/-! DEFINITION. The QR layout and `QR_LAYOUT` (49_qr_layout_mask R600 to R607, R620), with the BCH code that the version and the
format information share (R650, R652). -/

namespace Sys2Proof.Machine

/-! ### Format and version information -/

/-- The remainder of a polynomial over GF(2) by a generator of degree `deg`; `turns` is how many of its top bits stand above
the remainder (49_qr_layout_mask R650, R652). -/
def gf2Remainder (gen deg : Nat) : Nat → Nat → Nat
  | 0, x => x
  | k + 1, x => gf2Remainder gen deg k (if x.testBit (deg + k) then x ^^^ gen * 2 ^ k else x)

/-- `VI`, the version information (49_qr_layout_mask R652). -/
def qrVersionInfo (v : Nat) : Nat := v * 2 ^ 12 + gf2Remainder 0x1F25 12 6 (v * 2 ^ 12)

/-- `F`, the format information of a level and a mask (49_qr_layout_mask R650). -/
def qrFormatInfo (lev m : Nat) : Nat :=
  let d := [1, 0, 3, 2].getD lev 0 * 8 + m
  (d * 2 ^ 10 + gf2Remainder 0x537 10 5 (d * 2 ^ 10)) ^^^ 0x5412

/-! ### The frame -/

/-- A module of a finder pattern or its separator, at offset `(a, b)` from the pattern's top-left module, both in −1..7
shifted by one (49_qr_layout_mask R601, R602). -/
def finderModule (a b : Nat) : Option Bool :=
  if 8 < a ∨ 8 < b then none
  else if a = 0 ∨ b = 0 ∨ a = 8 ∨ b = 8 then some false
  else some (a == 1 || a == 7 || b == 1 || b == 7 || (3 ≤ a && a ≤ 5 && 3 ≤ b && b ≤ 5))

/-- The finder pattern or separator module at `(i, j)`, if any (49_qr_layout_mask R601, R602). -/
def qrFinder (w i j : Nat) : Option Bool :=
  (finderModule (i + 1) (j + 1)).or <|
  (if w - 8 ≤ j then finderModule (i + 1) (j - (w - 8)) else none).or <|
  if w - 8 ≤ i then finderModule (i - (w - 8)) (j + 1) else none

/-- The distance of two numbers. -/
def distance (a b : Nat) : Nat := (a - b) + (b - a)

/-- The alignment-pattern module at `(i, j)`, if any (49_qr_layout_mask R603). -/
def qrAlignment (T : Tables) (v i j : Nat) : Option Bool :=
  let centres := qrAlign T v
  match centres.find? (fun a => distance i a ≤ 2), centres.find? (fun b => distance j b ≤ 2) with
  | some a, some b =>
    let first := centres.headD 0
    let last := centres.getLastD 0
    if (a = first ∧ (b = first ∨ b = last)) ∨ (a = last ∧ b = first) then none
    else some (max (distance i a) (distance j b) != 1)
  | _, _ => none

/-- The timing module at `(i, j)`, if any (49_qr_layout_mask R604). -/
def qrTiming (w i j : Nat) : Option Bool :=
  if i = 6 ∧ 8 ≤ j ∧ j ≤ w - 9 then some (j % 2 == 0)
  else if j = 6 ∧ 8 ≤ i ∧ i ≤ w - 9 then some (i % 2 == 0)
  else none

/-- `(i, j)` is in the format area (49_qr_layout_mask R606). -/
def inFormatArea (w i j : Nat) : Bool :=
  (i == 8 && j ≤ 8 && j != 6) || (j == 8 && i ≤ 8 && i != 6) || (i == 8 && w - 8 ≤ j && j < w) ||
    (j == 8 && w - 7 ≤ i && i < w)

/-- The number of the version-information bit at `(i, j)`, if the module is in a version area (49_qr_layout_mask R606, R652). -/
def versionBit (v i j : Nat) : Option Nat :=
  let w := qrWidth v
  if v < 7 then none
  else if i < 6 ∧ w - 11 ≤ j ∧ j < w - 8 then some (3 * i + (j - (w - 11)))
  else if j < 6 ∧ w - 11 ≤ i ∧ i < w - 8 then some (3 * j + (i - (w - 11)))
  else none

/-- The function module at `(i, j)` and whether it is dark after the frame is built; none for a data module
(49_qr_layout_mask R600 to R607). The format area is light until `QR_MASK`. -/
def qrFrame (T : Tables) (v i j : Nat) : Option Bool :=
  let w := qrWidth v
  (qrFinder w i j).or <|
  (qrTiming w i j).or <|
  (if i = w - 8 ∧ j = 8 then some true else none).or <|
  (if inFormatArea w i j then some false else none).or <|
  ((versionBit v i j).map (qrVersionInfo v).testBit).or <|
  qrAlignment T v i j

/-! ### Data placement -/

/-- The values `right` takes in the zigzag: from `W − 1` down by 2, jumping over the timing column 6
(49_qr_layout_mask R620). -/
def zigzagRights (w : Nat) : List Nat := ((List.range (w / 2)).map fun k => w - 1 - 2 * k).map fun r => if r ≤ 6 then r - 1 else r

/-- The modules of one column pair, in order (49_qr_layout_mask R620). -/
def zigzagPair (w right : Nat) : List (Nat × Nat) :=
  (List.range w).flatMap fun t =>
    let i := if (right + 1) / 2 % 2 = 0 then w - 1 - t else t
    [(i, right), (i, right - 1)]

/-- The data modules of a version in the order of the zigzag (49_qr_layout_mask R620). -/
def qrDataModules (T : Tables) (v : Nat) : List (Nat × Nat) :=
  let w := qrWidth v
  ((zigzagRights w).flatMap (zigzagPair w)).filter fun p => (qrFrame T v p.1 p.2).isNone

/-- Place bits on the data modules in order; a module past the last bit stays 0 (49_qr_layout_mask R620). -/
def placeBits : List (Nat × Nat) → List Nat → Grid (BitVec 2) → Grid (BitVec 2)
  | [], _, g => g
  | _, [], g => g
  | (i, j) :: ps, b :: bs, g => placeBits ps bs (g.set i j (moduleBits (b == 1) false))

/-- The modules of the frame, every data module light (49_qr_layout_mask R600). -/
def qrFrameGrid (T : Tables) (v : Nat) : Grid (BitVec 2) :=
  Grid.ofFn (qrWidth v) (qrWidth v) fun i j =>
    match qrFrame T v i j with
    | some dark => moduleBits dark true
    | none => moduleBits false false

/-- The unmasked symbol of a version for its codewords (49_qr_layout_mask R600, R620). -/
def qrSymbol (T : Tables) (v : Nat) (codewords : List Nat) : Grid (BitVec 2) :=
  placeBits (qrDataModules T v) (codewords.flatMap fun c => bitsMsb c 8) (qrFrameGrid T v)

/-- The rule of `QR_LAYOUT` (49_qr_layout_mask R600); bits 8 and up of a codeword are ignored (D14). `total` is that of the
version, the same for every level (46_maxicode_qr_producer R491). -/
def qrLayout (T : Tables) (s : State) : CmdResult :=
  let v := s.res.selSize.toNat
  .ok (s.layOut (qrSymbol T v ((s.cw.nats 0 (qrBlocks T v 0).total).map (· % 256))) (qrWidth v) (qrWidth v))

/-- `QR_LAYOUT` (49_qr_layout_mask R600). -/
def execQrLayout (s : State) : Host.Outcome State Fault Refusal :=
  .next (laterStage .qr .protectedCw .placed (qrLayout .given) s)

end Sys2Proof.Machine
end

