-- ==== Sys2Proof/Machine/QrMask.lean ====
section
/-! DEFINITION. QR mask selection and `QR_MASK` (49_qr_layout_mask R640 to R651). -/

namespace Sys2Proof.Machine

/-- The mask condition `m` at `(i, j)` (49_qr_layout_mask R641). -/
def maskCondition (m i j : Nat) : Bool :=
  match m with
  | 0 => (i + j) % 2 == 0
  | 1 => i % 2 == 0
  | 2 => j % 3 == 0
  | 3 => (i + j) % 3 == 0
  | 4 => (i / 2 + j / 3) % 2 == 0
  | 5 => i * j % 2 + i * j % 3 == 0
  | 6 => (i * j % 2 + i * j % 3) % 2 == 0
  | _ => ((i + j) % 2 + i * j % 3) % 2 == 0

/-- The number of the format-information bit at `(i, j)`, if the module is in the format area (49_qr_layout_mask R651). -/
def formatBit (w i j : Nat) : Option Nat :=
  if i = 8 ∧ w - 8 ≤ j ∧ j < w then some (w - 1 - j)
  else if j = 8 ∧ w - 7 ≤ i ∧ i < w then some (i + 15 - w)
  else if j = 8 ∧ i < 6 then some i
  else if j = 8 ∧ (i = 7 ∨ i = 8) then some (i - 1)
  else if i = 8 ∧ j = 7 then some 8
  else if i = 8 ∧ j < 6 then some (14 - j)
  else none

/-- `DARK` of a module (10_state R79). -/
def isDark (b : BitVec 2) : Bool := b.getLsbD 0
/-- `FUNC` of a module (10_state R79). -/
def isFunc (b : BitVec 2) : Bool := b.getLsbD 1

/-- One module of `S_m` from the module of `U` (49_qr_layout_mask R640, R641, R651). A data module is one with `FUNC = 0`
(log 23). -/
def maskedModule (w format m : Nat) (u : BitVec 2) (i j : Nat) : BitVec 2 :=
  match formatBit w i j with
  | some t => moduleBits (format.testBit t) true
  | none => if isFunc u then u else moduleBits (isDark u != maskCondition m i j) false

/-- `S_m`, the candidate of mask `m` (49_qr_layout_mask R640). -/
def maskedSymbol (w lev m : Nat) (u : Grid (BitVec 2)) : Grid (BitVec 2) :=
  let format := qrFormatInfo lev m
  u.mapIdx fun i row => row.mapIdx fun j x => maskedModule w format m x i j

/-! ### Penalties -/

/-- The maximal runs of a line: colour and length. -/
def lineRuns : List Bool → List (Bool × Nat)
  | [] => []
  | x :: rest =>
    match lineRuns rest with
    | [] => [(x, 1)]
    | (y, n) :: more => if x = y then (y, n + 1) :: more else (x, 1) :: (y, n) :: more

/-- N1 of a line's runs (49_qr_layout_mask R642). -/
def n1Line (runs : List (Bool × Nat)) : Nat := (runs.map fun r => if 5 ≤ r.2 then 3 + (r.2 - 5) else 0).sum

/-- The five runs at the head of a list are dark, light, dark, light, dark with lengths `u, u, 3u, u, u`: then `u` and what
follows them (49_qr_layout_mask R644). -/
def finderRuns (runs : List (Bool × Nat)) : Option (Nat × List (Bool × Nat)) :=
  match runs with
  | (true, u) :: (false, b) :: (true, c) :: (false, d) :: (true, e) :: more =>
    if b = u ∧ c = 3 * u ∧ d = u ∧ e = u then some (u, more) else none
  | _ => none

/-- The side of a finder-like sequence: the end of the line, or a light run at least `4u` long (49_qr_layout_mask R644). -/
def n3Side (u : Nat) (next : Option (Bool × Nat)) : Bool :=
  match next with
  | none => true
  | some r => !r.1 && 4 * u ≤ r.2

/-- N3 of a line's runs, `prev` being the run before them (49_qr_layout_mask R644). -/
def n3Line : Option (Bool × Nat) → List (Bool × Nat) → Nat
  | _, [] => 0
  | prev, r :: rest =>
    (match finderRuns (r :: rest) with
     | some (u, more) => if n3Side u prev || n3Side u more.head? then 40 else 0
     | none => 0) + n3Line (some r) rest

/-- N2 of two rows, one above the other (49_qr_layout_mask R643). -/
def n2Rows : List Bool → List Bool → Nat
  | a :: b :: top, c :: d :: low =>
    (if a = b ∧ a = c ∧ a = d then 3 else 0) + n2Rows (b :: top) (d :: low)
  | _, _ => 0

/-- N2 of a symbol (49_qr_layout_mask R643). -/
def n2 : Grid Bool → Nat
  | r1 :: r2 :: rest => n2Rows r1 r2 + n2 (r2 :: rest)
  | _ => 0

/-- N4 of a symbol of width `w` (49_qr_layout_mask R645): `|100·dk/W² − 50| / 5` rounded down, over the integers. -/
def n4 (w : Nat) (g : Grid Bool) : Nat :=
  let dk := (g.map fun row => row.countP id).sum
  10 * (distance (100 * dk) (50 * w ^ 2) / (5 * w ^ 2))

/-- `N1 + N2 + N3 + N4` of a symbol (49_qr_layout_mask R640, R642 to R645). -/
def penalty (w : Nat) (g : Grid Bool) : Nat :=
  let runs := (g ++ g.columns w false).map lineRuns
  (runs.map n1Line).sum + n2 g + (runs.map (n3Line none)).sum + n4 w g

/-- The penalty of mask `m` (49_qr_layout_mask R640). -/
def maskPenalty (w lev m : Nat) (u : Grid (BitVec 2)) : Nat :=
  penalty w ((maskedSymbol w lev m u).map fun row => row.map isDark)

/-- The least element of a list of numbers and the lowest index it stands at, the first at index `i`
(49_qr_layout_mask R640). -/
def leastAt : Nat → Nat → List Nat → Nat → Nat
  | best, _, [], _ => best
  | best, low, p :: ps, i => if p < low then leastAt i p ps (i + 1) else leastAt best low ps (i + 1)

/-- `m*` (49_qr_layout_mask R640). -/
def chooseMask (penalties : List Nat) : Nat :=
  match penalties with
  | [] => 0
  | p :: ps => leastAt 0 p ps 1

/-- `QR_PENALTY0..7` (10_state R69). -/
def Penalties.ofList (ps : List Nat) : Penalties :=
  let p := fun k => BitVec.ofNat 32 (ps.getD k 0)
  ⟨p 0, p 1, p 2, p 3, p 4, p 5, p 6, p 7⟩

/-- The unmasked symbol `U`, read from `MAT` (49_qr_layout_mask R640). -/
def State.unmasked (s : State) : Grid (BitVec 2) :=
  let w := qrWidth s.res.selSize.toNat
  matRows s.mat w w

/-- The penalties of the eight candidates (49_qr_layout_mask R640). -/
def State.maskPenalties (s : State) : List Nat :=
  let u := s.unmasked
  (List.range 8).map fun m => maskPenalty (qrWidth s.res.selSize.toNat) s.res.selEcl.toNat m u

/-- The rule of `QR_MASK` (49_qr_layout_mask R640). -/
def qrMask (s : State) : CmdResult :=
  let penalties := s.maskPenalties
  let m := chooseMask penalties
  .ok { s with
    mat := writeRows s.mat 0 (maskedSymbol (qrWidth s.res.selSize.toNat) s.res.selEcl.toNat m s.unmasked)
    res := { s.res with qrPenalty := Penalties.ofList penalties, qrMaskSel := BitVec.ofNat 3 m } }

/-- `QR_MASK` (49_qr_layout_mask R640). -/
def execQrMask (s : State) : Host.Outcome State Fault Refusal := .next (laterStage .qr .placed .masked qrMask s)

end Sys2Proof.Machine
end

