-- ==== Sys2Proof/Machine/Pipeline.lean ====
section
/-! DEFINITION. The whole-pipeline commands (40_control_pipeline R230 to R234): the stages' own rules one after another, with one
configuration check before and one change of the pipeline stage after them. -/

namespace Sys2Proof.Machine

/-- The stages of Data Matrix without their own checks (40_control_pipeline R230, R234). -/
def dmPipeline (T : Tables) (s : State) : CmdResult :=
  (((dmOptimize T s).andThen (dmProduce T)).andThen (dmEcc T)).andThen (dmLayout T)

/-- `DM_ENCODE` (40_control_pipeline R230). -/
def execDmEncode (s : State) : Host.Outcome State Fault Refusal := .next (firstStage .dm .placed (dmPipeline .given) s)

/-- The stages of PDF417 without their own checks (40_control_pipeline R231, R234). -/
def pdfPipeline (T : Tables) (s : State) : CmdResult :=
  (((pdfOptimize T s).andThen (pdfProduce T)).andThen pdfEcc).andThen pdfLayout

/-- `PDF_ENCODE` (40_control_pipeline R231). -/
def execPdfEncode (s : State) : Host.Outcome State Fault Refusal := .next (firstStage .pdf .placed (pdfPipeline .given) s)

/-- The stages of MaxiCode without their own checks (40_control_pipeline R232, R234). -/
def maxiPipeline (s : State) : CmdResult := ((maxiProduce s).andThen maxiEcc).andThen maxiLayout

/-- `MAXI_ENCODE` (40_control_pipeline R232). -/
def execMaxiEncode (s : State) : Host.Outcome State Fault Refusal := .next (firstStage .maxi .placed maxiPipeline s)

/-- The stages of QR without their own checks (40_control_pipeline R233, R234). -/
def qrPipeline (T : Tables) (s : State) : CmdResult :=
  (((qrProduce T s).andThen (qrEcc T)).andThen (qrLayout T)).andThen qrMask

/-- `QR_ENCODE` (40_control_pipeline R233). -/
def execQrEncode (s : State) : Host.Outcome State Fault Refusal := .next (firstStage .qr .masked (qrPipeline .given) s)

end Sys2Proof.Machine
end

