-- ==== Sys2Proof/Machine/RsEngine.lean ====
section
/-! DEFINITION. The host Reed-Solomon commands `RS_INIT`, `RS_ENCODE` and `RS929_ENCODE` (41_rs_engine). -/

namespace Sys2Proof.Machine

/-- `if cond: raise Error(code, detail, NONE)`, else the rest of the rule. -/
def failIf (cond : Bool) (code : ErrCode) (detail : Nat) (s : State) (rest : CmdResult) : CmdResult :=
  if cond then .raised (errorAt code detail) s else rest

/-- `CheckRsParams` (41_rs_engine R241): the detail of the first check that fails. -/
def checkRsParams (m fcr prim nroots pad : Nat) : Option Nat :=
  let nn := 2 ^ m - 1
  if m < 1 || 8 < m then some 1
  else if nn < fcr then some 2
  else if prim < 1 || nn < prim then some 3
  else if nroots < 1 || nn - 1 < nroots then some 4
  else if nn - 1 - nroots < pad then some 5
  else none

/-- The active parameters that a successful `RS_INIT` copies (10_state R63). -/
def RsRegs.active (r : RsRegs) : RsActive := ⟨r.m, r.poly, r.fcr, r.prim, r.nroots, r.pad⟩

/-- The three tables and the active parameters of a successful `RS_INIT` (41_rs_engine R240). -/
def State.loadTables (s : State) (alpha index gen : List Nat) : State :=
  { s with
    alphaTo := Buffer.cleared.writeNats 0 alpha
    indexOf := Buffer.cleared.writeNats 0 index
    genpoly := Buffer.cleared.writeNats 0 gen
    act := s.rs.active
    rsReady := true }

/-- The rule of `RS_INIT` (41_rs_engine R240). -/
def rsInit (s : State) : CmdResult :=
  let m := s.rs.m.toNat
  let fcr := s.rs.fcr.toNat
  let prim := s.rs.prim.toNat
  let nroots := s.rs.nroots.toNat
  match checkRsParams m fcr prim nroots s.rs.pad.toNat with
  | some detail => .raised (errorAt .rsParam detail) s
  | none =>
    let f := buildField m s.rs.poly.toNat
    failIf (!f.ok) .rsParam 6 s <|
    .ok (s.loadTables f.alpha f.index (buildGenerator f.alpha f.index m fcr prim nroots))

/-- The index in `CW` of the lowest of the data symbols above `limit`, the first at index `i`. -/
def symbolAbove (limit : Nat) (data : List Nat) (i : Nat) : Option Nat := firstFailing (fun d => d ≤ limit) data i

/-- The part that both host encoders share once their parameters are known: the bounds of `CW`, the length, the symbols,
then the parity, all data read before any write (41_rs_engine R250, R253, R270). -/
def rsEncodeWith (s : State) (nroots maxLen limit : Nat) (parity : List Nat → List Nat) : CmdResult :=
  let src := s.rs.src.toNat
  let len := s.rs.len.toNat
  let dst := s.rs.dst.toNat
  failIf (Config.cwMax < src + len || Config.cwMax < dst + nroots) .config 8 s <|
  failIf (maxLen < len) .rsRange 1 s <|
  match symbolAbove limit (s.cw.nats src len) src with
  | some i => .raised ⟨.rsRange, 2, BitVec.ofNat 32 i⟩ s
  | none => .ok { s with cw := s.cw.writeNats dst (parity (s.cw.nats src len)) }

/-- `NN` of the active parameters (10_state R64). -/
def RsActive.nn (a : RsActive) : Nat := 2 ^ a.m.toNat - 1

/-- The rule of `RS_ENCODE` (41_rs_engine R250). -/
def rsEncode (s : State) : CmdResult :=
  let nroots := s.act.nroots.toNat
  failIf (!s.rsReady) .rsNotReady 0 s <|
  rsEncodeWith s nroots (s.act.nn - nroots - s.act.pad.toNat) s.act.nn fun data =>
    lfsrParity data (s.alphaTo.nats 0 256) (s.indexOf.nats 0 256) (s.genpoly.nats 0 256) s.act.nn nroots

/-- The rule of `RS929_ENCODE` (41_rs_engine R270): `len + k ≤ 928`. -/
def rs929Encode (s : State) : CmdResult :=
  let k := s.rs.nroots.toNat
  failIf (k < 1 || 512 < k) .rsParam 4 s <|
  rsEncodeWith s k (Config.pdfMaxCw - k) 928 fun data => ecc929 data k

/-- `RS_INIT` (41_rs_engine R240, R243). -/
def execRsInit (s : State) : Host.Outcome State Fault Refusal := .next (rsInit s).finishRsInit

/-- `RS_ENCODE` (41_rs_engine R250). -/
def execRsEncode (s : State) : Host.Outcome State Fault Refusal := .next (rsEncode s).finish

/-- `RS929_ENCODE` (41_rs_engine R270). -/
def execRs929Encode (s : State) : Host.Outcome State Fault Refusal := .next (rs929Encode s).finish

end Sys2Proof.Machine
end

