-- ==== Sys2Proof/Machine/Dispatch.lean ====
section
/-! DEFINITION. What each command does: one arm per command, each a call of its meaning. -/

namespace Sys2Proof.Machine

/-- The sequencer runs a command (40_control_pipeline R203). -/
def exec (i : Instr) (s : State) : Host.Outcome State Fault Refusal :=
  match i with
  | .nop => Sys2Proof.Machine.execNop s
  | .softReset => Sys2Proof.Machine.execSoftReset s
  | .rsInit => Sys2Proof.Machine.execRsInit s
  | .rsEncode => Sys2Proof.Machine.execRsEncode s
  | .rs929Encode => Sys2Proof.Machine.execRs929Encode s
  | .dmOptimize => Sys2Proof.Machine.execDmOptimize s
  | .dmProduce => Sys2Proof.Machine.execDmProduce s
  | .dmEcc => Sys2Proof.Machine.execDmEcc s
  | .dmLayout => Sys2Proof.Machine.execDmLayout s
  | .dmEncode => Sys2Proof.Machine.execDmEncode s
  | .pdfOptimize => Sys2Proof.Machine.execPdfOptimize s
  | .pdfProduce => Sys2Proof.Machine.execPdfProduce s
  | .pdfEcc => Sys2Proof.Machine.execPdfEcc s
  | .pdfLayout => Sys2Proof.Machine.execPdfLayout s
  | .pdfEncode => Sys2Proof.Machine.execPdfEncode s
  | .maxiProduce => Sys2Proof.Machine.execMaxiProduce s
  | .maxiEcc => Sys2Proof.Machine.execMaxiEcc s
  | .maxiLayout => Sys2Proof.Machine.execMaxiLayout s
  | .maxiEncode => Sys2Proof.Machine.execMaxiEncode s
  | .qrProduce => Sys2Proof.Machine.execQrProduce s
  | .qrEcc => Sys2Proof.Machine.execQrEcc s
  | .qrLayout => Sys2Proof.Machine.execQrLayout s
  | .qrMask => Sys2Proof.Machine.execQrMask s
  | .qrEncode => Sys2Proof.Machine.execQrEncode s

end Sys2Proof.Machine
end

