-- ==== Sys2Proof/Machine/Sequencer.lean ====
section
/-! DEFINITION. The sequencer step (40_control_pipeline R203) and the events of a run (20_memory R139). -/

namespace Sys2Proof.Machine

/-- The error outcome of a word that is not a command (30_encoding R161, 60_exceptions R702, R715). The opcode of `RS_INIT` with
reserved bits set is an `RS_INIT` that fails (41_rs_engine R240, 60_exceptions R711, R717; log 14). -/
def State.raiseIllegal (s : State) (d : Decoded) : State :=
  match d with
  | .command _ => s
  | .unknownOp => s.raise (errorAt .illegalCmd 1)
  | .reservedBits .rsInit => s.raiseRsInit (errorAt .illegalCmd 2)
  | .reservedBits .nop | .reservedBits .softReset | .reservedBits .rsEncode | .reservedBits .rs929Encode
  | .reservedBits .dmOptimize | .reservedBits .dmProduce | .reservedBits .dmEcc | .reservedBits .dmLayout
  | .reservedBits .dmEncode | .reservedBits .pdfOptimize | .reservedBits .pdfProduce | .reservedBits .pdfEcc
  | .reservedBits .pdfLayout | .reservedBits .pdfEncode | .reservedBits .maxiProduce | .reservedBits .maxiEcc
  | .reservedBits .maxiLayout | .reservedBits .maxiEncode | .reservedBits .qrProduce | .reservedBits .qrEcc
  | .reservedBits .qrLayout | .reservedBits .qrMask | .reservedBits .qrEncode => s.raise (errorAt .illegalCmd 2)

/-- The completing step for a latched word (40_control_pipeline R203). -/
def runWord (w : Word) (s : State) : Host.Outcome State Fault Refusal :=
  match decode w with
  | .command i => exec i s
  | .unknownOp => .next (s.raiseIllegal .unknownOp)
  | .reservedBits i => .next (s.raiseIllegal (.reservedBits i))

/-- The sequencer's turn: it steps only while `BUSY = 1` and `rst = 0` (40_control_pipeline R203, 70_reset_and_hazards R750). -/
def sequencerTurn (s : State) : Host.Outcome State Fault Refusal :=
  match s.latch with
  | none => .next s
  | some w => if s.rst then .next s else runWord w s

/-- One bus read, its word kept for the host. -/
def State.hostRead (s : State) (a : Address) (be : ByteEnable) : State :=
  let r := s.busRead a be
  { r.1 with responses := r.2 :: r.1.responses }

/-- What the loop of `wait` does after a read that found `BUSY = 1`: it reads again, the sequencer having its turn first when no
more reads come before it (30_encoding R192, 20_memory R141; log 24). -/
def pollAgain (polls : Nat) : List Event :=
  match polls with
  | 0 => [.sequencer, .poll 0]
  | k + 1 => [.poll k]

/-- One turn of the loop of `wait`: read `STATUS`, and repeat while bit 0 of the value read is 1 (30_encoding R192). -/
def State.hostPoll (s : State) (polls : Nat) : State :=
  let word := (s.busRead Reg.status.address 0b1111).2
  let t := s.hostRead Reg.status.address 0b1111
  if word.getLsbD 0 then { t with pending := pollAgain polls ++ t.pending } else t

/-- One event of a run (20_memory R139). -/
def runEvent (e : Event) (s : State) : Host.Outcome State Fault Refusal :=
  match e with
  | .read a be => .next (s.hostRead a be)
  | .write a be d => .next (s.busWrite a be d)
  | .sequencer => sequencerTurn s
  | .rst level => .next (s.driveRst level)
  | .poll polls => .next (s.hostPoll polls)

end Sys2Proof.Machine
end

