-- ==== Sys2Proof/Machine/Step.lean ====
section
/-! DEFINITION. One step of the machine: the oldest pending event, or, with no event pending, the sequencer's turn
(20_memory R139, R141; log 2). -/

namespace Sys2Proof.Machine

/-- One step (20_memory R139). -/
def step (s : State) : Host.Outcome State Fault Refusal :=
  match s.pending with
  | [] => sequencerTurn s
  | e :: rest => runEvent e { s with pending := rest }

/-- The state in which the very next step runs the command word `w` of `nbits` bits: the word is accepted into the latch
(40_control_pipeline R201), `rst` is low, and the sequencer's turn is the oldest pending event (log 1). -/
def State.withFetchWord (s : State) (nbits w : Nat) : State :=
  { s.accept (BitVec.ofNat 32 (w % 2 ^ nbits)) with rst := false, pending := .sequencer :: s.pending }

end Sys2Proof.Machine
end

