-- ==== Sys2Proof/Machine/HostProgram.lean ====
section
/-! DEFINITION. The host program syntax of 30_encoding R190 to R193: its statements as data and their expansion into bus
transactions. -/

namespace Sys2Proof.Machine

/-- The buffers a statement can name (30_encoding R191). -/
inductive BufferName where
  | inBuf | cw | plan | alphaTo | indexOf | genpoly
  deriving DecidableEq, Repr

/-- The base of a buffer (20_memory R122). -/
def BufferName.base : BufferName → Nat
  | .inBuf => 0x010000
  | .cw => 0x020000
  | .plan => 0x030000
  | .alphaTo => 0x040000
  | .indexOf => 0x040400
  | .genpoly => 0x040800

/-- The statements and the pseudo-instructions (30_encoding R191, R192). -/
inductive Statement where
  /-- `wr REG, v` -/
  | wr (r : Reg) (v : Word)
  /-- `rd REG` -/
  | rd (r : Reg)
  /-- `wrbuf BUF, i, v0, v1, …` -/
  | wrbuf (b : BufferName) (i : Nat) (vs : List Word)
  /-- `rdbuf BUF, i` -/
  | rdbuf (b : BufferName) (i : Nat)
  /-- `rdmat r, c` -/
  | rdmat (r c : Nat)
  /-- `cmd MNEMONIC` -/
  | cmd (i : Instr)
  /-- `wait`, the loop that reads `STATUS` while its bit 0 is 1; after `polls` repetitions the sequencer is given its turn (log 24) -/
  | wait (polls : Nat)
  /-- `wrstr "text"`, the text as its bytes -/
  | wrstr (text : List (BitVec 8))
  /-- `cfg f=v, …` -/
  | cfg (c : SymCfg)
  /-- `geom rows, cols` -/
  | geom (rows cols : BitVec 8)
  /-- `ack` -/
  | ack
  deriving DecidableEq, Repr

/-- `W(a, d)`, a legal write (30_encoding R191). -/
def writeEvent (a : Nat) (d : Word) : Event := .write (BitVec.ofNat 24 a) 0b1111 d

/-- `R(a)`, a legal read (30_encoding R191). -/
def readEvent (a : Nat) : Event := .read (BitVec.ofNat 24 a) 0b1111

/-- The writes of `wrbuf` (30_encoding R191). -/
def bufferWrites (b : BufferName) : Nat → List Word → List Event
  | _, [] => []
  | i, v :: vs => writeEvent (b.base + 4 * i) v :: bufferWrites b (i + 1) vs

/-- The expansion of a statement into the events of a run (30_encoding R191, R192). -/
def Statement.events (st : Statement) : List Event :=
  match st with
  | .wr r v => [writeEvent r.offset v]
  | .rd r => [readEvent r.offset]
  | .wrbuf b i vs => bufferWrites b i vs
  | .rdbuf b i => [readEvent (b.base + 4 * i)]
  | .rdmat r c => [readEvent (0x100000 + 4 * matIndex r c)]
  | .cmd i => [writeEvent 0x00C (encode i)]
  | .wait k => [.poll k]
  | .wrstr text =>
    bufferWrites .inBuf 0 (text.map (BitVec.setWidth 32)) ++
      [writeEvent Reg.inLen.offset (BitVec.ofNat 32 text.length)]
  | .cfg c => [writeEvent Reg.symCfg.offset c.toWord]
  | .geom rows cols => [writeEvent Reg.pdfGeom.offset ((cols ++ rows).setWidth 32)]
  | .ack => [writeEvent Reg.status.offset 0x1E]

/-- The events of a host program (30_encoding R190, R193). -/
def programEvents (p : List Statement) : List Event := p.flatMap Statement.events

/-- The state from which a host program runs: its events are the ones still to come (log 2). -/
def State.withProgram (s : State) (p : List Statement) : State := { s with pending := programEvents p }

end Sys2Proof.Machine
end

