-- ==== Sys2Proof/Safety.lean ====
section
/-! DEFINITION. What the claims call a good state and a good run: the launch premise `SecClean` (70_reset_and_hazards R762), the
end of a run and what it observes (R785), and the invariants that every step keeps. -/

namespace Sys2Proof.Machine

/-! ### Invariants -/

/-- Every buffer is in its canonical form (log 3). -/
structure State.BuffersWf (s : State) : Prop where
  inBuf : s.inBuf.wf
  cw : s.cw.wf
  plan : s.plan.wf
  alphaTo : s.alphaTo.wf
  indexOf : s.indexOf.wf
  genpoly : s.genpoly.wf
  mat : s.mat.wf

/-- The pairs of `PIPE_SYM` and `PIPE_STAGE` that the table of 40_control_pipeline R210 can leave, and the pair (0, 0). -/
def legalStage (sym : PipeSym) (stage : PipeStage) : Bool :=
  match sym, stage with
  | .noSym, .noStage => true
  | .dm, .planned | .dm, .produced | .dm, .protectedCw | .dm, .placed => true
  | .pdf, .planned | .pdf, .produced | .pdf, .protectedCw | .pdf, .placed => true
  | .maxi, .produced | .maxi, .protectedCw | .maxi, .placed => true
  | .qr, .produced | .qr, .protectedCw | .qr, .placed | .qr, .masked => true
  | _, _ => false

/-- What holds of the status, the pipeline and the RS engine in every state a run reaches. -/
structure State.StatusWf (s : State) : Prop where
  /-- the pipeline stage is one a command leaves (40_control_pipeline R210) -/
  stage : legalStage s.pipeSym s.pipeStage = true
  /-- a pipeline in progress has a legal configuration (60_exceptions R711) -/
  config : s.pipeSym ≠ .noSym → checkConfig s.pipeSym s = none
  /-- at most one of `DONE` and `ERR` is 1 (10_state R48, 60_exceptions R731) -/
  outcome : ¬ (s.done = true ∧ s.err = true)
  /-- while a command runs, neither is 1 and no error is recorded (40_control_pipeline R201) -/
  running : s.busy = true → s.done = false ∧ s.err = false ∧ s.errCode = 0 ∧ s.errDetail = 0 ∧ s.errIndex = noIndex
  /-- `RS_ACT0` and `RS_ACT1` are 0 while `RS_READY = 0` (10_state R63, 41_rs_engine R243) -/
  rsIdle : s.rsReady = false → s.act = RsActive.reset
  /-- while `RS_READY = 1` they are legal parameters (41_rs_engine R240, R241) -/
  rsActive : s.rsReady = true →
    checkRsParams s.act.m.toNat s.act.fcr.toNat s.act.prim.toNat s.act.nroots.toNat s.act.pad.toNat = none

/-- While `RS_READY = 1`, the tables `GF` are the ones the active parameters give, up to the bits of the polynomial that
`BuildField` never reads (41_rs_engine R240, R242, R244, 70_reset_and_hazards R774). -/
def State.TablesBuilt (s : State) : Prop :=
  s.rsReady = true →
    let f := buildField s.act.m.toNat s.act.poly.toNat
    f.ok = true ∧
    s.alphaTo.nats 0 256 = f.alpha ∧
    s.indexOf.nats 0 256 = f.index ∧
    s.genpoly.nats 0 256 =
      buildGenerator f.alpha f.index s.act.m.toNat s.act.fcr.toNat s.act.prim.toNat s.act.nroots.toNat

/-! ### The error outcome -/

/-- What the error outcome writes and what it keeps (60_exceptions R715), but for `PLAN` and the RS engine. -/
structure ErrorOutcome (s t : State) (code detail : Nat) (index : Word) : Prop where
  errCode : t.errCode = BitVec.ofNat 8 code
  errDetail : t.errDetail = BitVec.ofNat 8 detail
  errIndex : t.errIndex = index
  err : t.err = true
  done : t.done = s.done
  stage : t.pipeSym = .noSym ∧ t.pipeStage = .noStage
  extent : t.outW = 0 ∧ t.outH = 0
  idle : t.latch = none
  ctrl : t.ctrl = s.ctrl
  bits : t.cmdReject = s.cmdReject ∧ t.busViol = s.busViol
  cfg : t.cfg = s.cfg
  rs : t.rs = s.rs
  buffers : t.inBuf = s.inBuf ∧ t.cw = s.cw ∧ t.mat = s.mat
  host : t.rst = s.rst ∧ t.pending = s.pending ∧ t.responses = s.responses

/-- The host RS engine is as before: `RS_READY`, `RS_ACT0`, `RS_ACT1` and the tables `GF` (60_exceptions R715). -/
structure KeepsEngine (s t : State) : Prop where
  rsReady : t.rsReady = s.rsReady
  act : t.act = s.act
  alphaTo : t.alphaTo = s.alphaTo
  indexOf : t.indexOf = s.indexOf
  genpoly : t.genpoly = s.genpoly

/-- The command ends with this error, and writes no buffer and no engine state (60_exceptions R715, R717). -/
def RaisesError (i : Instr) (s : State) (code detail : Nat) (index : Word) : Prop :=
  ∃ t, exec i s = .next t ∧ ErrorOutcome s t code detail index ∧ KeepsEngine s t ∧ t.plan = s.plan

/-! ### The syndromes of the host RS engine -/

/-- The tables describe a field: every non-zero symbol is the power of `α` that its log says (41_rs_engine R243; polynomials that pass
the order check without it exist). -/
def State.isField (s : State) : Prop :=
  ∀ v, 1 ≤ v → v ≤ s.act.nn → (s.alphaTo.get (s.indexOf.get v).toNat).toNat = v

/-- The value of a polynomial, its highest coefficient first, at `α^k`, with the products of 41_rs_engine R245 over the tables in `GF`
(70_reset_and_hazards R787). -/
def State.polyAt (s : State) (k : Nat) (coeffs : List Nat) : Nat :=
  coeffs.foldl
    (fun acc c => logProduct (s.alphaTo.nats 0 256) s.act.nn (s.indexOf.get acc).toNat (k % s.act.nn) ^^^ c) 0

/-! ### The cost of a Data Matrix plan -/

/-- The cost of a plan over a message under 42_dm_optimizer R291 to R298: at each unit the switch into its mode and the codewords
of the unit; none when a mode of the plan cannot start a unit there. `skip` positions still belong to the unit begun last. -/
def planCost (gs1 : Bool) : DmMode → Nat → List DmMode → List Nat → Option Nat
  | _, _, _, [] => some 0
  | _, _, [], _ :: _ => none
  | cur, skip + 1, _ :: ms, _ :: bytes => planCost gs1 cur skip ms bytes
  | cur, 0, m :: ms, b :: bytes =>
    match dmUnit .given gs1 m (b :: bytes) with
    | none => none
    | some (len, c) => (planCost gs1 m (len - 1) ms bytes).map fun rest => Tables.given.dmSwitch cur m + c + rest

/-! ### The bytes that MaxiCode encodes one by one -/

/-- The positions of a message that no Numeric Shift takes, for the bytes from position `i` on (46_maxicode_qr_producer R463): the scan
takes nine digits together wherever nine stand. `skip` bytes still belong to the Numeric Shift taken last. -/
def maxiSingles : Nat → Nat → List Nat → List Nat
  | _, _, [] => []
  | skip + 1, i, _ :: rest => maxiSingles skip (i + 1) rest
  | 0, i, b :: rest =>
    if 9 ≤ (b :: rest).length ∧ ((b :: rest).take 9).all isDigit then maxiSingles 8 (i + 1) rest
    else i :: maxiSingles 0 (i + 1) rest

/-! ### Launch and end of a run -/

/-- No command is running and `rst` is low: the SEC takes host accesses (20_memory R139, 70_reset_and_hazards R750). -/
def State.idle (s : State) : Prop := s.latch = none ∧ s.rst = false

/-- The address of entry `i` of a buffer with base `base` (20_memory R123). -/
def entryAddress (base i : Nat) : Address := BitVec.ofNat 24 (base + 4 * i)

/-- The bits a register that the host can write implements; writes to the others are dropped and they read 0 (10_state R44 to R62,
20_memory R133). -/
def Reg.implemented (r : Reg) : Option Word :=
  match r with
  | .ctrl => some 0x00000003
  | .inLen => some 0x00001FFF
  | .symCfg => some 0x00FFFF1F
  | .pdfGeom => some 0x0000FFFF
  | .maxiPostal => some 0xFFFFFFFF
  | .maxiScm => some 0x00FFFFFF
  | .rsM => some 0x0000000F
  | .rsPoly => some 0x000001FF
  | .rsFcr => some 0x000000FF
  | .rsPrim => some 0x000000FF
  | .rsNroots => some 0x000003FF
  | .rsPad => some 0x000000FF
  | .rsSrc => some 0x00000FFF
  | .rsLen => some 0x00001FFF
  | .rsDst => some 0x00000FFF
  | .id | .status | .cmd | .errCode | .errIndex | .rsAct0 | .rsAct1 | .outW | .outH | .cwTotal | .cwData | .cwMsg
  | .selSize | .selEcl | .qrMaskSel | .qrPenalty _ | .planLen | .qrBits | .selMode => none

/-- A buffer whose every entry is a free value of one draw (10_state R86). -/
def Buffer.isUnspecified {base size width : Nat} (b : Buffer base size width) : Prop :=
  ∃ n, b = Buffer.unspecified n

/-- `SecClean`, the launch premise (70_reset_and_hazards R762). -/
structure SecClean (s : State) : Prop where
  rst : s.rst = false
  latch : s.latch = none
  registers : s.resetRegisters = s
  inBuf : s.inBuf.isUnspecified
  cw : s.cw.isUnspecified
  plan : s.plan.isUnspecified
  alphaTo : s.alphaTo.isUnspecified
  indexOf : s.indexOf.isUnspecified
  genpoly : s.genpoly.isUnspecified
  mat : s.mat.isUnspecified
  /-- no reset step occurs during the run -/
  noReset : ∀ e ∈ s.pending, ∀ level, e ≠ .rst level

/-- The end of a run: no statement is left and `BUSY = 0` (70_reset_and_hazards R785). -/
def State.runEnded (s : State) : Bool := s.pending.isEmpty && !s.busy

/-- Every register of the map (10_state R44). -/
def Reg.all : List Reg :=
  [.id, .ctrl, .status, .cmd, .errCode, .errIndex, .inLen, .symCfg, .pdfGeom, .maxiPostal, .maxiScm,
   .rsM, .rsPoly, .rsFcr, .rsPrim, .rsNroots, .rsPad, .rsSrc, .rsLen, .rsDst, .rsAct0, .rsAct1,
   .outW, .outH, .cwTotal, .cwData, .cwMsg, .selSize, .selEcl, .qrMaskSel,
   .qrPenalty 0, .qrPenalty 1, .qrPenalty 2, .qrPenalty 3, .qrPenalty 4, .qrPenalty 5, .qrPenalty 6, .qrPenalty 7,
   .planLen, .qrBits, .selMode]

/-- The observation of a run but for the buffers, which are read entry by entry with `Buffer.get`: the registers and the words
the host's reads returned, oldest first (70_reset_and_hazards R785). -/
def State.observed (s : State) : List Word × List Word := (Reg.all.map s.regWord, s.responses.reverse)

/-- A run of a host program stops neither in a fault nor in a refusal (70_reset_and_hazards R786, "never a hang"). -/
def runsOn (o : Host.Outcome State Fault Refusal) : Prop := ∃ t, o = .next t

end Sys2Proof.Machine
end

