-- ==== Sys2Proof/Certificates/Slice0/Obligations.lean ====
section
/-! DEFINITION. The statements for the provers. Each docstring names the rules of spec/ it formalises; where a clause rests on a
choice of the model, the docstring says so and names the log entry. -/

open Sys2Proof Sys2Proof.Machine

/-! ### Encoding -/

/-- Decoding and encoding agree: a 32-bit word decodes to a command exactly when it is that command's one word, so no bit of a command
word is dropped (30_encoding R160 to R164). -/
def Obligations.DecodeExactlyEncoded : Prop :=
  ∀ (w : Word) (i : Instr), (decode w = .command i ↔ w = encode i) ∧
    (decode w = .reservedBits i ↔ w.extractLsb' 0 8 = (encode i).extractLsb' 0 8 ∧ w ≠ encode i) ∧
    decodeTableWord 32 (encode i).toNat = some i

/-- Words of the opcode map and reserved words, as 30_encoding R162 and R163 list them. -/
def Obligations.SampleWordsDecode : Prop :=
  decode 0x00000000 = .command .nop ∧ decode 0x00000010 = .command .rsInit ∧ decode 0x00000012 = .command .rs929Encode ∧
  decode 0x00000020 = .command .dmOptimize ∧ decode 0x00000033 = .command .pdfLayout ∧
  decode 0x00000041 = .command .maxiEcc ∧ decode 0x0000005F = .command .qrEncode ∧
  decode 0x00000002 = .unknownOp ∧ decode 0x00000160 = .unknownOp ∧ decode 0x00000100 = .reservedBits .nop

/-- The sequencer decodes the latched word (30_encoding R161, 40_control_pipeline R203, 60_exceptions R702, R715): a reserved opcode
ends in `ILLEGAL_CMD` detail 1, a legal opcode with reserved bits in detail 2, any other word runs its command. What `RS_INIT` with
reserved bits does to the RS engine is the model's choice (log 14). -/
def Obligations.SequencerDecodesLatch : Prop :=
  ∀ (s : State) (w : Word), s.latch = some w → s.rst = false → s.pending = [] →
    (w.extractLsb' 0 8 ∉ legalOpcodes →
      ∃ t, step s = .next t ∧ ErrorOutcome s t 1 1 noIndex ∧ KeepsEngine s t ∧ t.plan = s.plan) ∧
    (∀ i, w.extractLsb' 0 8 = opcode i → w.extractLsb' 8 24 ≠ 0 →
      ∃ t, step s = .next t ∧ ErrorOutcome s t 1 2 noIndex ∧ t.plan = s.plan ∧
        (if i = .rsInit then t.rsReady = false ∧ t.act = RsActive.reset else KeepsEngine s t)) ∧
    (∀ i, w.extractLsb' 0 8 = opcode i → w.extractLsb' 8 24 = 0 → step s = exec i s)

/-! ### The step -/

/-- A step runs the decoded command: with the latch holding a command's word and `rst` low, the step whose turn is the sequencer's is
`exec` of that command, on the state with that turn taken off the pending events (40_control_pipeline R203; the list of pending events
is the model's choice, log 2). -/
def Obligations.StepRunsDecodedCommand : Prop :=
  ∀ (s : State) (w : Word) (i : Instr), s.latch = some w → decode w = .command i → s.rst = false →
    (s.pending = [] → step s = exec i s) ∧
    (∀ rest, s.pending = .sequencer :: rest → step s = exec i { s with pending := rest }) ∧
    (∀ (u : State) (v : Nat), v < 2 ^ 32 → decode (BitVec.ofNat 32 v) = .command i →
      step (u.withFetchWord 32 v) = exec i { u.accept (BitVec.ofNat 32 v) with rst := false })

/-- The SEC never hangs and never stops: every step of every state answers a next state (70_reset_and_hazards R786, 20_memory R139), and
one turn of the loop of `wait` does what 30_encoding R192 says: it reads `STATUS`, is over when `BUSY = 0`, and is to read again when
`BUSY = 1`, the sequencer's turn coming first when `poll` names no more reads before it (20_memory R141; the number is the model's choice,
log 24). -/
def Obligations.StepAlwaysGoesOn : Prop :=
  (∀ s : State, ∃ t, step s = .next t) ∧ (∀ (i : Instr) (s : State), ∃ t, exec i s = .next t) ∧
  (∀ (s : State) (k : Nat) (rest : List Event), s.rst = false → s.pending = .poll k :: rest →
    let told := { s with responses := s.statusWord :: s.responses }
    (s.latch = none → step s = .next { told with pending := rest }) ∧
    (s.latch ≠ none → step s =
      .next { told with pending := if k = 0 then .sequencer :: .poll 0 :: rest else .poll (k - 1) :: rest }))

/-- Every step keeps the canonical form of every buffer, so no entry outside a buffer's size is ever listed (10_state R74; the form itself is
the model's choice, log 3). -/
def Obligations.StepKeepsBuffersWf : Prop :=
  ∀ s t : State, s.BuffersWf → step s = .next t → t.BuffersWf

/-- Every step keeps what the rules say of the status, the pipeline and the RS engine: the stage is one that 40_control_pipeline R210
lists, a pipeline in progress has a legal configuration (60_exceptions R711), `DONE` and `ERR` are never both 1 (10_state R48), no
error is recorded while a command runs (40_control_pipeline R201), and `RS_ACT0/1` agree with `RS_READY` (10_state R63). -/
def Obligations.StepKeepsStatusWf : Prop :=
  ∀ s t : State, s.StatusWf → step s = .next t → t.StatusWf

/-- Every step keeps the tables `GF` equal to the ones the active parameters give while `RS_READY = 1` (41_rs_engine R240, R242, R244,
70_reset_and_hazards R774). -/
def Obligations.StepKeepsTablesBuilt : Prop :=
  ∀ s t : State, s.TablesBuilt → step s = .next t → t.TablesBuilt

/-- The state after reset meets every invariant and the launch premise, and so it does with any host program to run
(70_reset_and_hazards R750, R762, R785). -/
def Obligations.ResetMeetsInvariants : Prop :=
  State.reset.BuffersWf ∧ State.reset.StatusWf ∧ State.reset.TablesBuilt ∧ SecClean State.reset ∧
  ∀ p : List Statement, SecClean (State.reset.withProgram p)

/-! ### Reset and the control commands -/

/-- The reset values (10_state R85): after hard reset and after `SOFT_RESET` every register of the map holds its reset value, but for
the `DONE` that `SOFT_RESET` sets, and the interrupt output is low. -/
def Obligations.ResetValues : Prop :=
  (∀ r : Reg, State.reset.regWord r = if r = .id then 0x53454307 else if r = .errIndex then 0xFFFFFFFF else 0) ∧
  (∀ s : State, s.rst = true →
    (∀ r : Reg, (s.driveRst false).regWord r = if r = .id then 0x53454307 else if r = .errIndex then 0xFFFFFFFF else 0) ∧
    (s.driveRst false).irq = false) ∧
  (∀ s : State, ∃ u, exec .softReset s = .next u ∧
    (∀ r : Reg, u.regWord r =
      if r = .id then 0x53454307 else if r = .errIndex then 0xFFFFFFFF else if r = .status then 2 else 0) ∧
    u.irq = false)

/-- Hard reset (70_reset_and_hazards R750): while `rst = 1` a write changes nothing, a read changes nothing but the count of free values
and the sequencer takes no step; when `rst` returns to 0 the latch is empty and every buffer entry is a value drawn afresh. A level that
does not fall does not reset (log 15). What R750 leaves unspecified is told by the model's own numbering of free values, which is its
choice: the entries are the values of one draw, numbered by the count before the reset (log 4), the count grows (log 7), and a read takes
one draw (log 6). -/
def Obligations.HardReset : Prop :=
  ∀ s : State, s.rst = true →
    (∀ a be d, s.busWrite a be d = s) ∧
    (∀ a be, (s.busRead a be).1 = { s with draws := s.draws + 1 }) ∧
    sequencerTurn s = .next s ∧
    (s.driveRst true = s) ∧
    let t := s.driveRst false
    t.rst = false ∧ t.latch = none ∧ t.resetRegisters = t ∧ s.draws < t.draws ∧
    (∀ k, t.inBuf.get k = (Config.bufferDraw s.draws (0x010000 + 4 * k)).setWidth 8) ∧
    (∀ k, t.cw.get k = (Config.bufferDraw s.draws (0x020000 + 4 * k)).setWidth 10) ∧
    (∀ k, t.plan.get k = (Config.bufferDraw s.draws (0x030000 + 4 * k)).setWidth 4) ∧
    (∀ k, t.alphaTo.get k = (Config.bufferDraw s.draws (0x040000 + 4 * k)).setWidth 8) ∧
    (∀ k, t.indexOf.get k = (Config.bufferDraw s.draws (0x040400 + 4 * k)).setWidth 8) ∧
    (∀ k, t.genpoly.get k = (Config.bufferDraw s.draws (0x040800 + 4 * k)).setWidth 8) ∧
    (∀ k, t.mat.get k = (Config.bufferDraw s.draws (0x100000 + 4 * k)).setWidth 2)

/-- `NOP` completes (40_control_pipeline R220): it sets `DONE`, ends the command, and changes nothing else. -/
def Obligations.NopCompletes : Prop :=
  ∀ s : State, exec .nop s = .next { s with done := true, latch := none }

/-- `SOFT_RESET` completes (40_control_pipeline R221): every register is as after reset, then `DONE` is 1; `IN`, `CW`, `PLAN` and `MAT`
keep their contents; the tables `GF` are values drawn afresh; nothing else of the machine changes. That the tables hold the values of one
draw, numbered by the count before the command, and that the count grows, is the model's choice for what R221 leaves unspecified (log 4,
log 7). -/
def Obligations.SoftResetCompletes : Prop :=
  ∀ s : State, ∃ t, exec .softReset s = .next t ∧
    t = { s.resetRegisters with
      done := true, latch := none, alphaTo := t.alphaTo, indexOf := t.indexOf, genpoly := t.genpoly, draws := t.draws } ∧
    s.draws < t.draws ∧
    (∀ k, t.inBuf.get k = s.inBuf.get k) ∧ (∀ k, t.cw.get k = s.cw.get k) ∧ (∀ k, t.plan.get k = s.plan.get k) ∧
    (∀ k, t.mat.get k = s.mat.get k) ∧
    (∀ k, t.alphaTo.get k = (Config.bufferDraw s.draws (0x040000 + 4 * k)).setWidth 8) ∧
    (∀ k, t.indexOf.get k = (Config.bufferDraw s.draws (0x040400 + 4 * k)).setWidth 8) ∧
    (∀ k, t.genpoly.get k = (Config.bufferDraw s.draws (0x040800 + 4 * k)).setWidth 8)

/-! ### The life cycle of a command -/

/-- Acceptance (40_control_pipeline R201) and rejection (R202): a legal write to `CMD` while `BUSY = 0` fills the latch and clears
`DONE`, `ERR`, `ERR_CODE` and `ERR_INDEX` and nothing else, whatever the word; while `BUSY = 1` it sets `CMD_REJECT` and nothing else. -/
def Obligations.AcceptOrReject : Prop :=
  ∀ (s : State) (w : Word), s.rst = false →
    (s.latch = none → s.busWrite Reg.cmd.address 0b1111 w =
      { s with latch := some w, done := false, err := false, errCode := 0, errDetail := 0, errIndex := 0xFFFFFFFF }) ∧
    (s.latch ≠ none → s.busWrite Reg.cmd.address 0b1111 w = { s with cmdReject := true })

/-- Completion (40_control_pipeline R203, 10_state R47, R48): every command ends with `BUSY = 0` and, from a state with both bits clear,
with exactly one of `DONE` and `ERR` set; without error `ERR_CODE` and `ERR_INDEX` stay (60_exceptions R718), but for `SOFT_RESET`,
which writes their reset values. -/
def Obligations.ExactlyOneOfDoneAndErr : Prop :=
  ∀ (i : Instr) (s t : State), s.done = false → s.err = false → exec i s = .next t →
    t.busy = false ∧ t.done = !t.err ∧
    (t.done = true → i ≠ .softReset → t.errCode = s.errCode ∧ t.errDetail = s.errDetail ∧ t.errIndex = s.errIndex)

/-- No command writes `IN`; none but `SOFT_RESET` writes `CTRL`, the input and configuration registers, the `RS_*` parameter and operand
registers, `CMD_REJECT` or `BUS_VIOL` (40_control_pipeline R205, R221); none but `RS_INIT` and `SOFT_RESET` changes `RS_READY`, the active
parameters or the tables `GF` (10_state R50, R63); the host's side of the system stays. -/
def Obligations.CommandFrame : Prop :=
  ∀ (i : Instr) (s t : State), exec i s = .next t →
    (∀ k, t.inBuf.get k = s.inBuf.get k) ∧ t.rst = s.rst ∧ t.pending = s.pending ∧ t.responses = s.responses ∧
    (i ≠ .softReset → t.ctrl = s.ctrl ∧ t.cfg = s.cfg ∧ t.rs = s.rs ∧ t.cmdReject = s.cmdReject ∧ t.busViol = s.busViol) ∧
    (i ≠ .softReset → i ≠ .rsInit → KeepsEngine s t)

/-! ### Errors -/

/-- Every error of every command is the error outcome (60_exceptions R715, R717): a command that ends without `DONE` leaves `ERR`, an
`ERR_CODE`, no pipeline, no symbol extent and everything else as it was; `PLAN` can change only in `DM_ENCODE` and `PDF_ENCODE`, and the
RS engine only in `RS_INIT`, which it leaves not ready. -/
def Obligations.EveryErrorIsTheErrorOutcome : Prop :=
  ∀ (i : Instr) (s t : State), s.done = false → exec i s = .next t → t.done = false →
    (∃ code detail index, 1 ≤ code ∧ code ≤ 8 ∧ ErrorOutcome s t code detail index) ∧
    (i ≠ .dmEncode → i ≠ .pdfEncode → t.plan = s.plan) ∧
    (i ≠ .rsInit → KeepsEngine s t) ∧
    (i = .rsInit → t.rsReady = false ∧ t.act = RsActive.reset)

/-- The sequence check (40_control_pipeline R210, R211): a later stage out of its place raises `SEQUENCE`, whatever the configuration. -/
def Obligations.SequenceCheck : Prop :=
  ∀ (s : State) (i : Instr) (sym : PipeSym) (needs : PipeStage),
    (i, sym, needs) ∈ [(Instr.dmProduce, PipeSym.dm, PipeStage.planned), (.dmEcc, .dm, .produced), (.dmLayout, .dm, .protectedCw),
      (.pdfProduce, .pdf, .planned), (.pdfEcc, .pdf, .produced), (.pdfLayout, .pdf, .protectedCw),
      (.maxiEcc, .maxi, .produced), (.maxiLayout, .maxi, .protectedCw),
      (.qrEcc, .qr, .produced), (.qrLayout, .qr, .protectedCw), (.qrMask, .qr, .placed)] →
    ¬ (s.pipeSym = sym ∧ s.pipeStage = needs) → RaisesError i s 2 0 noIndex

/-- The configuration checks of QR and of Data Matrix in their order (60_exceptions R720, R721, R724, R725). -/
def Obligations.ConfigChecks : Prop :=
  ∀ s : State,
    (∀ i ∈ [Instr.dmOptimize, .dmEncode, .pdfOptimize, .pdfEncode, .maxiProduce, .maxiEncode, .qrProduce, .qrEncode],
      (s.n = 0 → RaisesError i s 3 1 noIndex) ∧ (4096 < s.n → RaisesError i s 3 2 noIndex)) ∧
    (1 ≤ s.n → s.n ≤ 4096 →
      (∀ i ∈ [Instr.qrProduce, .qrEncode],
        (3 < s.mode → RaisesError i s 3 3 noIndex) ∧
        (s.mode ≤ 3 → 40 < s.size → RaisesError i s 3 4 noIndex) ∧
        (s.mode ≤ 3 → s.size ≤ 40 → 3 < s.ecl → RaisesError i s 3 5 noIndex)) ∧
      (s.mode ≤ 3 → s.size ≤ 40 → s.ecl ≤ 3 → checkConfig .qr s = none) ∧
      (∀ i ∈ [Instr.dmOptimize, .dmEncode],
        (6 < s.mode → RaisesError i s 3 3 noIndex) ∧
        (s.mode ≤ 6 → 30 < s.size → RaisesError i s 3 4 noIndex) ∧
        (s.mode ≤ 6 → s.size ≤ 30 → s.ecl ≠ 0 → RaisesError i s 3 5 noIndex) ∧
        (s.mode ≤ 6 → s.size ≤ 30 → s.ecl = 0 → s.gs1 = true → 2 ≤ s.mode → RaisesError i s 3 7 noIndex)) ∧
      (s.mode ≤ 6 → s.size ≤ 30 → s.ecl = 0 → (s.gs1 = true → s.mode < 2) → checkConfig .dm s = none))

/-- The configuration checks of MaxiCode and of PDF417 in their order (60_exceptions R722, R723, R725). -/
def Obligations.ConfigChecksMaxiPdf : Prop :=
  ∀ s : State, 1 ≤ s.n → s.n ≤ 4096 →
    (∀ i ∈ [Instr.maxiProduce, .maxiEncode],
      (s.mode ≠ 0 → RaisesError i s 3 3 noIndex) ∧
      (s.mode = 0 → (s.size < 2 ∨ 6 < s.size) → RaisesError i s 3 4 noIndex) ∧
      (s.mode = 0 → 2 ≤ s.size → s.size ≤ 6 → s.ecl ≠ 0 → RaisesError i s 3 5 noIndex) ∧
      (s.mode = 0 → 2 ≤ s.size → s.size ≤ 6 → s.ecl = 0 → s.gs1 = true → RaisesError i s 3 7 noIndex)) ∧
    (s.mode = 0 → 2 ≤ s.size → s.size ≤ 6 → s.ecl = 0 → s.gs1 = false → checkConfig .maxi s = none) ∧
    (∀ i ∈ [Instr.pdfOptimize, .pdfEncode],
      let mic := s.micro
      let r := s.geomRows
      let c := s.geomCols
      let trunc := s.cfg.symCfg.trunc
      let badEcl := (mic = false ∧ 8 < s.ecl ∧ s.ecl ≠ 15) ∨ (mic = true ∧ s.ecl ≠ 0 ∧ s.ecl ≠ 15)
      let badGeom := (mic = true ∧ trunc = true) ∨
        (mic = false ∧ (r = 1 ∨ r = 2 ∨ 90 < r ∨ 30 < c ∨ (r ≠ 0 ∧ c ≠ 0 ∧ 928 < r * c))) ∨ (mic = true ∧ 4 < c)
      (3 < s.mode → RaisesError i s 3 3 noIndex) ∧
      (s.mode ≤ 3 → s.size ≠ 0 → RaisesError i s 3 4 noIndex) ∧
      (s.mode ≤ 3 → s.size = 0 → badEcl → RaisesError i s 3 5 noIndex) ∧
      (s.mode ≤ 3 → s.size = 0 → ¬ badEcl → badGeom → RaisesError i s 3 6 noIndex) ∧
      (s.mode ≤ 3 → s.size = 0 → ¬ badEcl → ¬ badGeom → s.gs1 = true → RaisesError i s 3 7 noIndex) ∧
      (s.mode ≤ 3 → s.size = 0 → ¬ badEcl → ¬ badGeom → s.gs1 = false → mic = true → r ≠ 0 →
        (∀ v ∈ mpdfVariants, v.rows = r → c ≠ 0 ∧ v.cols ≠ c) → RaisesError i s 3 0x0A noIndex) ∧
      (s.mode ≤ 3 → s.size = 0 → ¬ badEcl → ¬ badGeom → s.gs1 = false →
        (mic = true → r ≠ 0 → ∃ v ∈ mpdfVariants, v.rows = r ∧ (c = 0 ∨ v.cols = c)) → checkConfig .pdf s = none))

/-- The interrupt output (60_exceptions R730, 10_state R84): `irq` is high exactly when a set status bit is enabled. -/
def Obligations.InterruptLine : Prop :=
  ∀ s : State, s.irq = true ↔ (s.done = true ∧ s.ctrl.ieDone = true) ∨ (s.err = true ∧ s.ctrl.ieErr = true)

/-! ### The bus -/

/-- The registers while `BUSY = 0`. Every register of the map reads its value, and the read changes nothing (20_memory R129, R138);
`CMD` reads 0 (10_state R52). A host-writable register reads back the implemented bits of the word written; a write to one changes no
other register but the stage in `STATUS`, and no buffer (10_state R44 to R62, 20_memory R133, R134, R138). A write to an input or
configuration register clears the pipeline stage, a write to `CTRL` or an `RS_*` register leaves it (10_state R60). A write to `STATUS`
clears `DONE`, `ERR`, `CMD_REJECT` and `BUS_VIOL` where it writes 1, and nothing else (10_state R46, R48, R49). -/
def Obligations.RegisterReadBack : Prop :=
  ∀ (s : State) (d : Word), s.idle →
    (∀ r : Reg, s.busRead r.address 0b1111 = (s, s.regWord r)) ∧
    s.regWord .id = 0x53454307 ∧ s.regWord .cmd = 0 ∧ s.regWord .errIndex = s.errIndex ∧
    s.regWord .errCode = (s.errDetail ++ s.errCode).setWidth 32 ∧
    (∀ (r : Reg) (mask : Word), r.implemented = some mask →
      let t := s.busWrite r.address 0b1111 d
      (t.busRead r.address 0b1111).2 = d &&& mask ∧
      (∀ q : Reg, q ≠ r → q ≠ .status → t.regWord q = s.regWord q) ∧
      (if r ∈ [Reg.inLen, .symCfg, .pdfGeom, .maxiPostal, .maxiScm] then t.pipeSym = .noSym ∧ t.pipeStage = .noStage
        else t.pipeSym = s.pipeSym ∧ t.pipeStage = s.pipeStage) ∧
      t = { s with ctrl := t.ctrl, cfg := t.cfg, rs := t.rs, pipeSym := t.pipeSym, pipeStage := t.pipeStage }) ∧
    s.busWrite Reg.status.address 0b1111 d =
      { s with
        done := s.done && !d.getLsbD 1, err := s.err && !d.getLsbD 2
        cmdReject := s.cmdReject && !d.getLsbD 3, busViol := s.busViol && !d.getLsbD 4 }

/-- `IN` and `CW` on the bus (10_state R75, R76, 20_memory R123, R135, R138): a write stores the entry's low bits, changes no other entry
and nothing else but the pipeline stage, and the next read returns the entry zero-extended. -/
def Obligations.BufferWriteRead : Prop :=
  ∀ (s : State) (i : Nat) (d : Word), s.idle → i < 4096 →
    (let t := s.busWrite (entryAddress 0x010000 i) 0b1111 d
     (t.busRead (entryAddress 0x010000 i) 0b1111).2 = d &&& 0xFF ∧ (∀ j, j ≠ i → t.inBuf.get j = s.inBuf.get j) ∧
     t = { s with inBuf := t.inBuf, pipeSym := .noSym, pipeStage := .noStage }) ∧
    (let t := s.busWrite (entryAddress 0x020000 i) 0b1111 d
     (t.busRead (entryAddress 0x020000 i) 0b1111).2 = d &&& 0x3FF ∧ (∀ j, j ≠ i → t.cw.get j = s.cw.get j) ∧
     t = { s with cw := t.cw })

/-- The buffers that are read-only to the host (20_memory R123, R131): a read of an entry of `PLAN`, `GF` or `MAT` returns the entry
zero-extended and changes nothing, a write sets `BUS_VIOL` and changes nothing else. -/
def Obligations.ReadOnlyBuffers : Prop :=
  ∀ (s : State) (i : Nat) (d : Word), s.idle →
    (i < 4097 → s.busRead (entryAddress 0x030000 i) 0b1111 = (s, (s.plan.get i).setWidth 32) ∧
      s.busWrite (entryAddress 0x030000 i) 0b1111 d = { s with busViol := true }) ∧
    (i < 256 → s.busRead (entryAddress 0x040000 i) 0b1111 = (s, (s.alphaTo.get i).setWidth 32) ∧
      s.busRead (entryAddress 0x040400 i) 0b1111 = (s, (s.indexOf.get i).setWidth 32) ∧
      s.busRead (entryAddress 0x040800 i) 0b1111 = (s, (s.genpoly.get i).setWidth 32) ∧
      s.busWrite (entryAddress 0x040000 i) 0b1111 d = { s with busViol := true } ∧
      s.busWrite (entryAddress 0x040400 i) 0b1111 d = { s with busViol := true } ∧
      s.busWrite (entryAddress 0x040800 i) 0b1111 d = { s with busViol := true }) ∧
    (∀ r c, r < 256 → c < 1024 →
      s.busRead (entryAddress 0x100000 (1024 * r + c)) 0b1111 = (s, (s.mat.get (1024 * r + c)).setWidth 32) ∧
      s.busWrite (entryAddress 0x100000 (1024 * r + c)) 0b1111 d = { s with busViol := true })

/-- What sets `BUS_VIOL` whatever the SEC does. Misaligned and sub-word accesses (20_memory R127, R132): an illegal read returns 0, an
illegal write changes nothing, and both set `BUS_VIOL`. Unmapped addresses and read-only registers (20_memory R122, R124, R130, R131): a
legal access between the ranges of the map, or to a register offset the map does not list, reads 0 and sets `BUS_VIOL`; a write to a
read-only register only sets `BUS_VIOL`. That illegal accesses and unmapped addresses do the same while `BUSY = 1` is the model's reading
(log 16). -/
def Obligations.IllegalUnmappedAndReadOnly : Prop :=
  ∀ (s : State) (a : Address) (d : Word), s.rst = false →
    (∀ be : ByteEnable, (a.toNat % 4 ≠ 0 ∨ be ≠ 0b1111) →
      s.busRead a be = ({ s with busViol := true }, 0) ∧ s.busWrite a be d = { s with busViol := true }) ∧
    (a.toNat % 4 = 0 →
      (a.toNat < 0x100 ∧ (∀ r : Reg, r.offset ≠ a.toNat)) ∨ (0x100 ≤ a.toNat ∧ a.toNat < 0x010000) ∨
        (0x014000 ≤ a.toNat ∧ a.toNat < 0x020000) ∨ (0x024000 ≤ a.toNat ∧ a.toNat < 0x030000) ∨
        (0x034004 ≤ a.toNat ∧ a.toNat < 0x040000) ∨ (0x040C00 ≤ a.toNat ∧ a.toNat < 0x100000) ∨ 0x200000 ≤ a.toNat →
      s.busRead a 0b1111 = ({ s with busViol := true }, 0) ∧ s.busWrite a 0b1111 d = { s with busViol := true }) ∧
    (∀ r ∈ [Reg.id, .errCode, .errIndex, .rsAct0, .rsAct1, .outW, .outH, .cwTotal, .cwData, .cwMsg, .selSize, .selEcl, .qrMaskSel,
        .planLen, .qrBits, .selMode],
      s.busWrite r.address 0b1111 d = { s with busViol := true }) ∧
    (∀ k, s.busWrite (Reg.qrPenalty k).address 0b1111 d = { s with busViol := true })

/-- Accesses while `BUSY = 1` (20_memory R136, R137): `ID`, `CTRL`, `STATUS` and `CMD` read as defined, a read of any other register or of
a buffer entry returns a free value and is no violation; a write to `CTRL` or `STATUS` takes effect, a write to `CMD` is rejected, a write
to any other register or to `IN` or `CW` is dropped with `BUS_VIOL`; the running command keeps its word. That the free value is numbered
by the count of draws is the model's choice (log 6), and that a dropped write leaves the pipeline stage is its reading (log 22). -/
def Obligations.AccessWhileBusy : Prop :=
  ∀ (s : State) (d : Word), s.rst = false → s.latch ≠ none →
    let free := ({ s with draws := s.draws + 1 }, Config.busDraw s.draws)
    (∀ r ∈ [Reg.id, .ctrl, .status, .cmd], s.busRead r.address 0b1111 = (s, s.regWord r)) ∧
    (∀ r ∉ [Reg.id, .ctrl, .status, .cmd], s.busRead r.address 0b1111 = free) ∧
    (∀ i, (i < 4096 → s.busRead (entryAddress 0x010000 i) 0b1111 = free ∧ s.busRead (entryAddress 0x020000 i) 0b1111 = free) ∧
      (i < 4097 → s.busRead (entryAddress 0x030000 i) 0b1111 = free) ∧
      (i < 256 → s.busRead (entryAddress 0x040000 i) 0b1111 = free ∧ s.busRead (entryAddress 0x040400 i) 0b1111 = free ∧
        s.busRead (entryAddress 0x040800 i) 0b1111 = free) ∧
      (i < 262144 → s.busRead (entryAddress 0x100000 i) 0b1111 = free)) ∧
    s.busWrite Reg.ctrl.address 0b1111 d = { s with ctrl := ⟨d.getLsbD 0, d.getLsbD 1⟩ } ∧
    s.busWrite Reg.status.address 0b1111 d =
      { s with
        done := s.done && !d.getLsbD 1, err := s.err && !d.getLsbD 2
        cmdReject := s.cmdReject && !d.getLsbD 3, busViol := s.busViol && !d.getLsbD 4 } ∧
    s.busWrite Reg.cmd.address 0b1111 d = { s with cmdReject := true } ∧
    (∀ r ∉ [Reg.ctrl, .status, .cmd], s.busWrite r.address 0b1111 d = { s with busViol := true }) ∧
    (∀ i, i < 4096 → s.busWrite (entryAddress 0x010000 i) 0b1111 d = { s with busViol := true } ∧
      s.busWrite (entryAddress 0x020000 i) 0b1111 d = { s with busViol := true }) ∧
    (∀ (a : Address) be, (s.busWrite a be d).latch = s.latch ∧ (s.busRead a be).1.latch = s.latch)

/-! ### The host Reed-Solomon engine -/

/-- The parameter checks of `RS_INIT` in their order (41_rs_engine R240, R241, R243, 60_exceptions R707): the first that fails raises
`RS_PARAM` with its detail, a field whose order check fails detail 6, and a failing `RS_INIT` clears `RS_READY` and the active
parameters. -/
def Obligations.RsInitRejects : Prop :=
  ∀ s : State,
    let m := s.rs.m.toNat
    let nn := 2 ^ m - 1
    let fails := fun detail => ∃ t, exec .rsInit s = .next t ∧ ErrorOutcome s t 6 detail noIndex ∧ t.plan = s.plan ∧
      t.rsReady = false ∧ t.act = RsActive.reset
    (m < 1 ∨ 8 < m → fails 1) ∧
    (1 ≤ m → m ≤ 8 →
      (nn < s.rs.fcr.toNat → fails 2) ∧
      (s.rs.fcr.toNat ≤ nn →
        (s.rs.prim.toNat < 1 ∨ nn < s.rs.prim.toNat → fails 3) ∧
        (1 ≤ s.rs.prim.toNat → s.rs.prim.toNat ≤ nn →
          (s.rs.nroots.toNat < 1 ∨ nn - 1 < s.rs.nroots.toNat → fails 4) ∧
          (1 ≤ s.rs.nroots.toNat → s.rs.nroots.toNat ≤ nn - 1 →
            (nn - 1 - s.rs.nroots.toNat < s.rs.pad.toNat → fails 5) ∧
            (s.rs.pad.toNat ≤ nn - 1 - s.rs.nroots.toNat → (buildField m s.rs.poly.toNat).ok = false → fails 6)))))

/-- A successful `RS_INIT` (41_rs_engine R240, 10_state R50, R63): with legal parameters and a field that passes the order check it
completes, the tables hold what `BuildField` and `BuildGenerator` give, the active parameters are the ones used, `RS_READY` is 1, and
nothing else changes. -/
def Obligations.RsInitBuilds : Prop :=
  ∀ s : State,
    let m := s.rs.m.toNat
    let f := buildField m s.rs.poly.toNat
    let gen := buildGenerator f.alpha f.index m s.rs.fcr.toNat s.rs.prim.toNat s.rs.nroots.toNat
    1 ≤ m → m ≤ 8 → s.rs.fcr.toNat ≤ 2 ^ m - 1 → 1 ≤ s.rs.prim.toNat → s.rs.prim.toNat ≤ 2 ^ m - 1 →
    1 ≤ s.rs.nroots.toNat → s.rs.nroots.toNat ≤ 2 ^ m - 2 → s.rs.pad.toNat ≤ 2 ^ m - 2 - s.rs.nroots.toNat → f.ok = true →
    ∃ t, exec .rsInit s = .next t ∧
      (∀ k, k < 256 → (t.alphaTo.get k).toNat = f.alpha.getD k 0 ∧ (t.indexOf.get k).toNat = f.index.getD k 0 ∧
        (t.genpoly.get k).toNat = gen.getD k 0) ∧
      t = { s with
        alphaTo := t.alphaTo, indexOf := t.indexOf, genpoly := t.genpoly, rsReady := true
        act := ⟨s.rs.m, s.rs.poly, s.rs.fcr, s.rs.prim, s.rs.nroots, s.rs.pad⟩, done := true, latch := none }

/-- The tables of `BuildField` (41_rs_engine R242): 256 entries each, `alpha` runs through the powers of `x`, 0 above them, the log of 0 is
`NN` when the order check passes, and `index` is a right inverse on what `alpha` reaches. -/
def Obligations.FieldTables : Prop :=
  ∀ m poly : Nat, 1 ≤ m → m ≤ 8 →
    let f := buildField m poly
    let nn := 2 ^ m - 1
    f.alpha.length = 256 ∧ f.index.length = 256 ∧ f.alpha.getD 0 0 = 1 ∧
    (∀ i, i + 1 < nn → f.alpha.getD (i + 1) 0 = nextShift m poly (f.alpha.getD i 0)) ∧
    (∀ i, nn ≤ i → f.alpha.getD i 0 = 0) ∧
    (f.ok = true ↔ nextShift m poly (f.alpha.getD (nn - 1) 0) = 1) ∧
    (f.ok = true → f.index.getD 0 0 = nn) ∧
    (∀ i, i < nn → f.alpha.getD (f.index.getD (f.alpha.getD i 0) 0) 0 = f.alpha.getD i 0)

/-- The errors of `RS_ENCODE` and `RS929_ENCODE` in their order (41_rs_engine R250, R253, R270, 60_exceptions R708, R709, R712, R716). -/
def Obligations.RsEncodeErrors : Prop :=
  ∀ s : State,
    let src := s.rs.src.toNat
    let len := s.rs.len.toNat
    let dst := s.rs.dst.toNat
    let nroots := s.act.nroots.toNat
    let nn := 2 ^ s.act.m.toNat - 1
    let k := s.rs.nroots.toNat
    (s.rsReady = false → RaisesError .rsEncode s 7 0 noIndex) ∧
    (s.rsReady = true →
      (4096 < src + len ∨ 4096 < dst + nroots → RaisesError .rsEncode s 3 8 noIndex) ∧
      (src + len ≤ 4096 → dst + nroots ≤ 4096 →
        (nn - nroots - s.act.pad.toNat < len → RaisesError .rsEncode s 8 1 noIndex) ∧
        (len ≤ nn - nroots - s.act.pad.toNat → ∀ j, j < len → nn < (s.cw.get (src + j)).toNat →
          (∀ i, i < j → (s.cw.get (src + i)).toNat ≤ nn) → RaisesError .rsEncode s 8 2 (BitVec.ofNat 32 (src + j))))) ∧
    (k < 1 ∨ 512 < k → RaisesError .rs929Encode s 6 4 noIndex) ∧
    (1 ≤ k → k ≤ 512 →
      (4096 < src + len ∨ 4096 < dst + k → RaisesError .rs929Encode s 3 8 noIndex) ∧
      (src + len ≤ 4096 → dst + k ≤ 4096 →
        (928 < len + k → RaisesError .rs929Encode s 8 1 noIndex) ∧
        (len + k ≤ 928 → ∀ j, j < len → 928 < (s.cw.get (src + j)).toNat →
          (∀ i, i < j → (s.cw.get (src + i)).toNat ≤ 928) → RaisesError .rs929Encode s 8 2 (BitVec.ofNat 32 (src + j)))))

/-- A successful `RS_ENCODE` (41_rs_engine R250, R251, R253): the `NROOTS` parity symbols of the data as it was before the command stand at
`CW[RS_DST..)`, every other entry is as before, and nothing else changes. The premise is the invariant of StepKeepsStatusWf. Where a
coefficient of the generator is 0 the parity is that of R251's pseudocode, though R245 and R252 differ (log 25). -/
def Obligations.RsEncodeResult : Prop :=
  ∀ s : State, s.StatusWf → s.rsReady = true →
    let src := s.rs.src.toNat
    let len := s.rs.len.toNat
    let dst := s.rs.dst.toNat
    let nroots := s.act.nroots.toNat
    let nn := 2 ^ s.act.m.toNat - 1
    let par := lfsrParity (s.cw.nats src len) (s.alphaTo.nats 0 256) (s.indexOf.nats 0 256) (s.genpoly.nats 0 256) nn nroots
    src + len ≤ 4096 → dst + nroots ≤ 4096 → len ≤ nn - nroots - s.act.pad.toNat →
    (∀ j, j < len → (s.cw.get (src + j)).toNat ≤ nn) →
    ∃ t, exec .rsEncode s = .next t ∧ par.length = nroots ∧
      (∀ j, j < nroots → (t.cw.get (dst + j)).toNat = par.getD j 0) ∧
      (∀ j, j < dst ∨ dst + nroots ≤ j → t.cw.get j = s.cw.get j) ∧
      t = { s with cw := t.cw, done := true, latch := none }

/-- The Reed-Solomon round trip (70_reset_and_hazards R787, "must decode with zero syndromes"; 41_rs_engine R245, R252): where the
tables describe a field (R243) and no coefficient of the generator is 0, every successful `RS_ENCODE` with `RS_PAD = 0` leaves parity that,
after the data as it was before the command, reads as a polynomial that is zero at `α^(FCR·PRIM + i·PRIM)` for every `i` below `NROOTS`.
The first premises are the invariants of StepKeepsStatusWf and StepKeepsTablesBuilt. For a coefficient 0 the pseudocode of R251, which the
model follows, differs from R245, R252 and R787, and the property fails (log 25). -/
def Obligations.RsRoundTrip : Prop :=
  ∀ s : State, s.StatusWf → s.TablesBuilt → s.rsReady = true → s.act.pad = 0 → s.isField →
    let src := s.rs.src.toNat
    let len := s.rs.len.toNat
    let dst := s.rs.dst.toNat
    let nroots := s.act.nroots.toNat
    let nn := 2 ^ s.act.m.toNat - 1
    (∀ k, k < nroots → (s.genpoly.get k).toNat ≠ nn) →
    src + len ≤ 4096 → dst + nroots ≤ 4096 → len ≤ nn - nroots → (∀ j, j < len → (s.cw.get (src + j)).toNat ≤ nn) →
    ∃ t, exec .rsEncode s = .next t ∧ t.done = true ∧
      ∀ i, i < nroots →
        s.polyAt (s.act.fcr.toNat * s.act.prim.toNat + i * s.act.prim.toNat) (s.cw.nats src len ++ t.cw.nats dst nroots) = 0

/-- A successful `RS929_ENCODE` (41_rs_engine R270, R272, R253): the `k` parity codewords stand at `CW[RS_DST..)`, each below 929, every
other entry is as before, and nothing else changes. -/
def Obligations.Rs929EncodeResult : Prop :=
  ∀ s : State,
    let src := s.rs.src.toNat
    let len := s.rs.len.toNat
    let dst := s.rs.dst.toNat
    let k := s.rs.nroots.toNat
    let par := ecc929 (s.cw.nats src len) k
    1 ≤ k → k ≤ 512 → src + len ≤ 4096 → dst + k ≤ 4096 → len + k ≤ 928 →
    (∀ j, j < len → (s.cw.get (src + j)).toNat ≤ 928) →
    ∃ t, exec .rs929Encode s = .next t ∧ par.length = k ∧
      (∀ j, j < k → (t.cw.get (dst + j)).toNat = par.getD j 0 ∧ par.getD j 0 < 929) ∧
      (∀ j, j < dst ∨ dst + k ≤ j → t.cw.get j = s.cw.get j) ∧
      t = { s with cw := t.cw, done := true, latch := none }

/-- The parity of `RS929_ENCODE` and of `PDF_ECC` makes a codeword: data and parity, read as a polynomial with the first symbol highest, are
zero at `3^1 … 3^k` modulo 929 (41_rs_engine R271, R272; 70_reset_and_hazards R787, "must decode with zero syndromes"). -/
def Obligations.Ecc929ZeroSyndromes : Prop :=
  ∀ (data : List Nat) (k i : Nat), 1 ≤ i → i ≤ k →
    (data ++ ecc929 data k).foldl (fun acc c => acc * 3 ^ i + c) 0 % 929 = 0

/-! ### Data Matrix -/

/-- A successful `DM_OPTIMIZE` (42_dm_optimizer R290, R303, 10_state R70, R77): the plan's codes and the sentinel stand in `PLAN`, the other
entries and everything else are as before, and the stage is PLANNED. -/
def Obligations.DmOptimizeResult : Prop :=
  ∀ (s : State) (modes : List DmMode), checkConfig .dm s = none → s.n ≤ 3116 → dmPlan .given s.gs1 s.mode s.message = .ok modes →
    ∃ t, exec .dmOptimize s = .next t ∧ modes.length = s.n ∧
      (∀ k, k < s.n → (t.plan.get k).toNat = (modes.getD k .ascii).code) ∧ t.plan.get s.n = 0xF ∧
      (∀ k, s.n < k → t.plan.get k = s.plan.get k) ∧ t.res.planLen.toNat = s.n + 1 ∧
      t = { s with
        plan := t.plan, res := { s.res with planLen := t.res.planLen }, pipeSym := .dm, pipeStage := .planned
        done := true, latch := none }

/-- The character errors of forced X12 and EDIFACT (42_dm_optimizer R302, 60_exceptions R706, R716) and the length limit (R303, R705):
`DM_OPTIMIZE` and `DM_ENCODE` name the lowest byte outside the mode's alphabet; a message above 3116 bytes raises `CAPACITY` first. -/
def Obligations.DmOptimizeErrors : Prop :=
  ∀ s : State, checkConfig .dm s = none → ∀ i ∈ [Instr.dmOptimize, .dmEncode],
    (3116 < s.n → RaisesError i s 4 1 noIndex) ∧
    (s.n ≤ 3116 → ∀ k, k < s.n →
      (s.mode = 5 → ¬ (32 ≤ (s.inBuf.get k).toNat ∧ (s.inBuf.get k).toNat ≤ 94) →
        (∀ j, j < k → 32 ≤ (s.inBuf.get j).toNat ∧ (s.inBuf.get j).toNat ≤ 94) →
        RaisesError i s 5 5 (BitVec.ofNat 32 k)) ∧
      (s.mode = 4 → x12Value (s.inBuf.get k).toNat = none → (∀ j, j < k → (x12Value (s.inBuf.get j).toNat).isSome) →
        RaisesError i s 5 4 (BitVec.ofNat 32 k)))

/-- The automatic Data Matrix plan is optimal under the optimizer's own cost model (42_dm_optimizer R291 to R300; 70_reset_and_hazards
R787): it has a cost, and no plan, a single mode's among them, costs less. -/
def Obligations.DmAutoPlanOptimal : Prop :=
  ∀ (gs1 : Bool) (bytes : List Nat), bytes.length ≤ 4096 →
    ∃ best, planCost gs1 .ascii 0 (dmAutoPlan .given gs1 bytes) bytes = some best ∧
      ∀ (plan : List DmMode) (cost : Nat), planCost gs1 .ascii 0 plan bytes = some cost → best ≤ cost

/-- `DM_PRODUCE` with the stage in its place (44_dm_producer R361, R374 to R377, 40_control_pipeline R214). It completes where the message
fits: exactly `D` data codewords stand in `CW`, the message, the unlatch and the pads among them, the result registers describe the
selected size, and everything else is as before. It raises `CAPACITY` detail 2 where no square size holds the message, detail 3 where the
requested size does not (R361, 60_exceptions R705). -/
def Obligations.DmProduceResult : Prop :=
  ∀ s : State, s.pipeSym = .dm → s.pipeStage = .planned → checkConfig .dm s = none →
    let out := (s.dmEmitted .given).out
    (s.size = 0 → 1558 < out.length → RaisesError .dmProduce s 4 2 noIndex) ∧
    (s.size ≠ 0 → (dmSize .given s.size).data < out.length → RaisesError .dmProduce s 4 3 noIndex) ∧
    ∀ size, dmSelect .given s.size out.length = .ok size →
      let z := dmSize .given size
      let cws := dmDataCodewords (s.dmEmitted .given) z.data
      ∃ t, exec .dmProduce s = .next t ∧ cws.length = z.data ∧ out <+: cws ∧
        (∀ k, k < z.data → t.cw.get k = BitVec.ofNat 10 (cws.getD k 0)) ∧
        (∀ k, z.data ≤ k → t.cw.get k = s.cw.get k) ∧
        t.res.cwMsg.toNat = out.length ∧ t.res.cwData.toNat = z.data ∧ t.res.cwMsg.toNat ≤ t.res.cwData.toNat ∧
        t.res.cwTotal.toNat = z.data + z.parity ∧ t.res.selSize.toNat = size ∧
        t = { s with
          cw := t.cw, pipeStage := .produced, done := true, latch := none
          res := { s.res with
            cwMsg := t.res.cwMsg, cwData := t.res.cwData, cwTotal := t.res.cwTotal, selSize := t.res.selSize, selEcl := 0
            selMode := 0 } }

/-- Automatic size selection takes the smallest square size that holds the message, and a requested size must hold it
(44_dm_producer R361). -/
def Obligations.DmSizeSelection : Prop :=
  ∀ size need : Nat,
    (∀ s, dmSelect .given 0 need = .ok s ↔
      1 ≤ s ∧ s ≤ 24 ∧ need ≤ (dmSize .given s).data ∧ ∀ r, 1 ≤ r → r < s → (dmSize .given r).data < need) ∧
    (1558 < need → dmSelect .given 0 need = .error (errorAt .capacity 2)) ∧
    (size ≠ 0 → need ≤ (dmSize .given size).data → dmSelect .given size need = .ok size) ∧
    (size ≠ 0 → (dmSize .given size).data < need → dmSelect .given size need = .error (errorAt .capacity 3))

/-- A completed `DM_ECC` (44_dm_producer R380, R390): with the stage in its place and a size of the table selected it always completes;
the data stays, and symbol `k` of the parity of block `j` stands at `CW[D + k·b + j]`, block `j` being every `b`-th data codeword from the
`j`-th on; with `LEGACY144` at size 24 the whole sequence is then permuted; `CW_TOTAL` is `D + E` and all else is as before. Which
permutation it is stays open (log 8). -/
def Obligations.DmEccResult : Prop :=
  ∀ s : State, s.pipeSym = .dm → s.pipeStage = .produced → checkConfig .dm s = none → 1 ≤ s.selLow → s.selLow ≤ 30 →
    let z := dmSize .given s.selLow
    let b := z.blocks
    let eb := z.parity / b
    let bytes := (s.cw.nats 0 z.data).map (· % 256)
    let block := fun j => (List.range ((z.data - j + b - 1) / b)).map fun i => bytes.getD (j + i * b) 0
    let par := fun j => (rsParities rsDm eb [block j]).flatten
    let plain : Nat → BitVec 10 := fun k =>
      if k < z.data then s.cw.get k else BitVec.ofNat 10 ((par ((k - z.data) % b)).getD ((k - z.data) / b) 0)
    let legacy := s.cfg.symCfg.legacy144 = true ∧ s.selLow = 24
    ∃ t, exec .dmEcc s = .next t ∧ z.parity = eb * b ∧
      (¬ legacy → (∀ k, k < z.data → t.cw.get k = s.cw.get k) ∧
        ∀ k j, k < eb → j < b → (t.cw.get (z.data + k * b + j)).toNat = (par j).getD k 0) ∧
      (legacy → ∀ k, k < 2178 → t.cw.get k = plain (legacy144Source k)) ∧
      (∀ k, z.data + z.parity ≤ k → t.cw.get k = s.cw.get k) ∧
      t.res.cwTotal.toNat = z.data + z.parity ∧
      t = { s with
        cw := t.cw, res := { s.res with cwTotal := t.res.cwTotal }, pipeStage := .protectedCw, done := true, latch := none }

/-- A completed `DM_LAYOUT` of a size of the table (47_dm_maxicode_layout R520, R523, 40_control_pipeline R214): `MAT` holds the symbol and
is 0 outside it, the left and bottom edges are dark, the top and right edges alternate, all of them function modules, and all else is as
before. -/
def Obligations.DmLayoutResult : Prop :=
  ∀ s : State, s.pipeSym = .dm → s.pipeStage = .protectedCw → checkConfig .dm s = none → 1 ≤ s.selLow → s.selLow ≤ 30 →
    let z := dmSize .given s.selLow
    let symbol := dmSymbol z ((s.cw.nats 0 (z.data + z.parity)).map (· % 256))
    ∃ t, exec .dmLayout s = .next t ∧ t.outW.toNat = z.cols ∧ t.outH.toNat = z.rows ∧
      (∀ r c, r < 256 → c < 1024 → t.mat.get (matIndex r c) =
        if r < z.rows ∧ c < z.cols then (symbol.getD r []).getD c 0 else 0) ∧
      (∀ r, r < z.rows → t.mat.get (matIndex r 0) = moduleBits true true ∧
        t.mat.get (matIndex r (z.cols - 1)) = moduleBits (r % 2 == 1) true) ∧
      (∀ c, c < z.cols → t.mat.get (matIndex (z.rows - 1) c) = moduleBits true true ∧
        t.mat.get (matIndex 0 c) = moduleBits (c % 2 == 0) true) ∧
      t = { s with mat := t.mat, outW := t.outW, outH := t.outH, pipeStage := .placed, done := true, latch := none }

/-- `DM_ENCODE` is its four stages (40_control_pipeline R230, R234): where the configuration is legal and the message can be planned and
fits, it completes, and the state it leaves is the state the four stage commands leave one after another. -/
def Obligations.DmEncodeIsItsStages : Prop :=
  ∀ (s : State) (modes : List DmMode) (size : Nat), checkConfig .dm s = none → s.n ≤ 3116 →
    dmPlan .given s.gs1 s.mode s.message = .ok modes →
    dmSelect .given s.size (dmSegments .given s.gs1 (modes.map DmMode.code) s.message).out.length = .ok size →
    ∃ t1 t2 t3 t, exec .dmOptimize s = .next t1 ∧ exec .dmProduce t1 = .next t2 ∧ exec .dmEcc t2 = .next t3 ∧
      exec .dmLayout t3 = .next t ∧ exec .dmEncode s = .next t ∧
      t.done = true ∧ t.err = s.err ∧ t.pipeSym = .dm ∧ t.pipeStage = .placed ∧ t.res.selSize.toNat = size ∧
      t = { s with
        plan := t.plan, cw := t.cw, mat := t.mat, outW := t.outW, outH := t.outH, res := t.res
        pipeSym := .dm, pipeStage := .placed, done := true, latch := none }

/-! ### PDF417 -/

/-- A successful `PDF_OPTIMIZE` (43_pdf417_optimizer R330, R335, 10_state R70, R77): the plan's codes and the sentinel stand in `PLAN`, the
other entries and everything else are as before, and the stage is PLANNED; the forced modes raise `CHARSET` at the lowest byte they cannot
encode. -/
def Obligations.PdfOptimizeResult : Prop :=
  ∀ s : State, checkConfig .pdf s = none →
    (∀ classes, pdfPlan .given s.mode s.message = .ok classes →
      ∃ t, exec .pdfOptimize s = .next t ∧ classes.length = s.n ∧
        (∀ k, k < s.n → (t.plan.get k).toNat = (classes.getD k .byte).code) ∧ t.plan.get s.n = 0xF ∧
        (∀ k, s.n < k → t.plan.get k = s.plan.get k) ∧ t.res.planLen.toNat = s.n + 1 ∧
        t = { s with
          plan := t.plan, res := { s.res with planLen := t.res.planLen }, pipeSym := .pdf, pipeStage := .planned
          done := true, latch := none }) ∧
    (∀ i ∈ [Instr.pdfOptimize, .pdfEncode], ∀ k, k < s.n →
      (s.mode = 1 → ¬ isDigit (s.inBuf.get k).toNat → (∀ j, j < k → isDigit (s.inBuf.get j).toNat) →
        RaisesError i s 5 1 (BitVec.ofNat 32 k)) ∧
      (s.mode = 2 → pdfClass (s.inBuf.get k).toNat = .byte → (∀ j, j < k → pdfClass (s.inBuf.get j).toNat ≠ .byte) →
        RaisesError i s 5 2 (BitVec.ofNat 32 k)))

/-- The automatic PDF417 plan (43_pdf417_optimizer R330 to R334): it has one class for each byte, a byte of class Byte stays Byte, no byte
changes to a class other than Byte, and a message of one class is never converted. -/
def Obligations.PdfAutoPlan : Prop :=
  ∀ bytes : List Nat,
    (pdfAutoPlan .given bytes).length = bytes.length ∧
    (∀ k, k < bytes.length →
      (pdfAutoPlan .given bytes).getD k .byte = pdfClass (bytes.getD k 0) ∨ (pdfAutoPlan .given bytes).getD k .byte = .byte) ∧
    (∀ c, (∀ b ∈ bytes, pdfClass b = c) → pdfAutoPlan .given bytes = List.replicate bytes.length c)

/-- Every PDF417 message codeword is in 0..928 (45_pdf417_producer R421 to R426, "Every PDF417 codeword is in 0..928"). -/
def Obligations.PdfCodewordRange : Prop :=
  ∀ (plan bytes : List Nat), (∀ b ∈ bytes, b < 256) → ∀ c ∈ pdfMessage .given plan bytes, c ≤ 928

/-- `PDF_PRODUCE` with the stage in its place (45_pdf417_producer R427 to R432, R436). Where the message fits, with `MICRO = 0` the length
descriptor, the message and the pads fill the `N` data codewords of the geometry; with `MICRO = 1` the message and the pads fill the
capacity of the variant; every other entry and all else is as before. Otherwise it raises `CAPACITY` (60_exceptions R705): detail 3 where
the requested rows or columns do not hold it, 2 where no automatic geometry does (R429, R432), 4 for a message too long for any variant
(R436). Which variants there are stays open (log 9). -/
def Obligations.PdfProduceResult : Prop :=
  ∀ s : State, s.pipeSym = .pdf → s.pipeStage = .planned → checkConfig .pdf s = none →
    let msg := s.pdfMsg .given
    let d := msg.length + 1
    let level := pdfLevel .given s.ecl d
    let e := 2 ^ (level + 1)
    let frame := fun (t : State) => t = { s with
      cw := t.cw, pipeStage := .produced, done := true, latch := none
      res := { s.res with
        cwMsg := t.res.cwMsg, cwData := t.res.cwData, cwTotal := t.res.cwTotal, selSize := t.res.selSize, selEcl := t.res.selEcl
        selMode := 0 } }
    (s.micro = false → ∀ r c, pdfGeometry s.geomRows s.geomCols (d + e) = .ok (r, c) →
      ∃ t, exec .pdfProduce s = .next t ∧ d + e ≤ r * c ∧ r * c ≤ 928 ∧
        t.cw.get 0 = BitVec.ofNat 10 (r * c - e) ∧
        (∀ k, k < msg.length → t.cw.get (k + 1) = BitVec.ofNat 10 (msg.getD k 0)) ∧
        (∀ k, d ≤ k → k < r * c - e → t.cw.get k = 900) ∧ (∀ k, r * c - e ≤ k → t.cw.get k = s.cw.get k) ∧
        t.res.cwMsg.toNat = d ∧ t.res.cwData.toNat = r * c - e ∧ t.res.cwTotal.toNat = r * c ∧
        t.res.selSize.toNat = r + 256 * c ∧ t.res.selEcl.toNat = level ∧ frame t) ∧
    (s.micro = false →
      let rows := s.geomRows
      let cols := s.geomCols
      let r := fun c => max 3 ((d + e + c - 1) / c)
      let c := (d + e + rows - 1) / rows
      (rows ≠ 0 → cols ≠ 0 → rows * cols < d + e → RaisesError .pdfProduce s 4 3 noIndex) ∧
      (rows = 0 → cols ≠ 0 → (90 < r cols ∨ 928 < r cols * cols) → RaisesError .pdfProduce s 4 3 noIndex) ∧
      (rows ≠ 0 → cols = 0 → (30 < c ∨ 928 < rows * c) → RaisesError .pdfProduce s 4 3 noIndex) ∧
      (rows = 0 → cols = 0 → (∀ c, 1 ≤ c → c ≤ 30 → 90 < r c ∨ 928 < r c * c) → RaisesError .pdfProduce s 4 2 noIndex)) ∧
    (s.micro = true → ∀ v, microVariant s.geomRows s.geomCols msg.length = .ok v →
      ∃ t, exec .pdfProduce s = .next t ∧ msg.length ≤ 126 ∧ msg.length ≤ v.cap ∧
        (∀ k, k < msg.length → t.cw.get k = BitVec.ofNat 10 (msg.getD k 0)) ∧
        (∀ k, msg.length ≤ k → k < v.cap → t.cw.get k = 900) ∧ (∀ k, v.cap ≤ k → t.cw.get k = s.cw.get k) ∧
        t.res.cwMsg.toNat = msg.length ∧ t.res.cwData.toNat = v.cap ∧ t.res.cwTotal.toNat = v.cols * v.rows ∧
        t.res.selSize.toNat = v.rows + 256 * v.cols ∧ t.res.selEcl = 0 ∧ frame t) ∧
    (s.micro = true → 126 < msg.length → RaisesError .pdfProduce s 4 4 noIndex) ∧
    (s.micro = true → msg.length ≤ 126 →
      (∀ v ∈ mpdfVariants, (s.geomCols = 0 ∨ v.cols = s.geomCols) → (s.geomRows = 0 ∨ v.rows = s.geomRows) → v.cap < msg.length) →
      RaisesError .pdfProduce s 4 (if s.geomRows ≠ 0 ∨ s.geomCols ≠ 0 then 3 else 2) noIndex)

/-- A completed `PDF_ECC` (45_pdf417_producer R445): with the stage in its place it always completes; the `CW_TOTAL − CW_DATA` parity
codewords of the data follow it, each below 929, and all else is as before. -/
def Obligations.PdfEccResult : Prop :=
  ∀ s : State, s.pipeSym = .pdf → s.pipeStage = .produced → checkConfig .pdf s = none →
    let n := s.res.cwData.toNat
    let k := s.res.cwTotal.toNat - n
    let par := ecc929 (s.cw.nats 0 n) k
    ∃ t, exec .pdfEcc s = .next t ∧ par.length = k ∧
      (∀ j, n ≤ j → j < n + k → j < 4096 → (t.cw.get j).toNat = par.getD (j - n) 0 ∧ par.getD (j - n) 0 < 929) ∧
      (∀ j, j < n ∨ n + k ≤ j → t.cw.get j = s.cw.get j) ∧
      t = { s with cw := t.cw, pipeStage := .protectedCw, done := true, latch := none }

/-- A completed `PDF_LAYOUT` (48_pdf417_layout R560 to R568, 40_control_pipeline R214): for a symbol of legal extent every row has the width
of its kind, `MAT` holds the rows and is 0 outside them, a PDF417 row begins with `START` and ends with `STOP` or `STOP_T`, and all else is
as before. The bar patterns and row address patterns stay open (log 10, 11). -/
def Obligations.PdfLayoutResult : Prop :=
  ∀ s : State, s.pipeSym = .pdf → s.pipeStage = .protectedCw → checkConfig .pdf s = none →
    let rows := s.selLow
    let cols := s.selHigh
    let width := if s.micro then (if cols ≤ 2 then 17 * cols + 21 else 17 * cols + 31)
      else if s.cfg.symCfg.trunc then 17 * (cols + 2) + 1 else 17 * (cols + 4) + 1
    1 ≤ cols → cols ≤ 30 → (s.micro = true → cols ≤ 4) → rows * cols ≤ s.res.cwTotal.toNat →
    ∃ t, exec .pdfLayout s = .next t ∧ t.outW.toNat = width ∧ t.outH.toNat = rows ∧
      (∀ r, r < rows → (s.pdfRows.getD r []).length = width) ∧
      (∀ r c, r < 256 → c < 1024 → t.mat.get (matIndex r c) =
        if r < rows ∧ c < width then (s.pdfRows.getD r []).getD c 0 else 0) ∧
      (s.micro = false → ∀ r, r < rows →
        (∀ c, c < 17 → t.mat.get (matIndex r c) = moduleBits (pdfStart.getD c 0 == 1) true) ∧
        (s.cfg.symCfg.trunc = false →
          ∀ c, c < 18 → t.mat.get (matIndex r (width - 18 + c)) = moduleBits (pdfStop.getD c 0 == 1) true) ∧
        (s.cfg.symCfg.trunc = true → t.mat.get (matIndex r (width - 1)) = moduleBits true true)) ∧
      t = { s with mat := t.mat, outW := t.outW, outH := t.outH, pipeStage := .placed, done := true, latch := none }

/-- `PDF_ENCODE` is its four stages (40_control_pipeline R231, R234): where the configuration is legal and the message can be planned and
fits, it completes, and the state it leaves is the state the four stage commands leave one after another. Which MicroPDF417 variants a
message can fit stays open (log 9). -/
def Obligations.PdfEncodeIsItsStages : Prop :=
  ∀ (s : State) (classes : List PdfClass), checkConfig .pdf s = none → pdfPlan .given s.mode s.message = .ok classes →
    let msg := pdfMessage .given (classes.map PdfClass.code) s.message
    (s.micro = true → ∃ v, microVariant s.geomRows s.geomCols msg.length = .ok v) →
    (s.micro = false → ∃ rc, pdfGeometry s.geomRows s.geomCols
      (msg.length + 1 + 2 ^ (pdfLevel .given s.ecl (msg.length + 1) + 1)) = .ok rc) →
    ∃ t1 t2 t3 t, exec .pdfOptimize s = .next t1 ∧ exec .pdfProduce t1 = .next t2 ∧ exec .pdfEcc t2 = .next t3 ∧
      exec .pdfLayout t3 = .next t ∧ exec .pdfEncode s = .next t ∧
      t.done = true ∧ t.err = s.err ∧ t.pipeSym = .pdf ∧ t.pipeStage = .placed ∧
      t = { s with
        plan := t.plan, cw := t.cw, mat := t.mat, outW := t.outW, outH := t.outH, res := t.res
        pipeSym := .pdf, pipeStage := .placed, done := true, latch := none }

/-! ### MaxiCode -/

/-- `MAXI_PRODUCE` of a legal configuration (46_maxicode_qr_producer R460, R463, R465, R466, R468). The lowest byte that no Numeric Shift
takes and that no code set holds, or that is a lowercase letter under `MAXI_LC_REJECT`, raises `CHARSET`; without such a byte the message
can be encoded. A message above the capacity of the mode raises `CAPACITY` detail 3. Otherwise the primary and the secondary message stand
in `CW[0..10+S)`, in modes 2 and 3 the primary being the ten 6-bit groups of `V`, in the others the mode and the first nine codewords;
the rest is padded with `MPAD`; all else is as before. `MAXI_ENCODE` raises the same errors. The code sets stay open (log 12). -/
def Obligations.MaxiProduceResult : Prop :=
  ∀ s : State, checkConfig .maxi s = none →
    let reject := s.cfg.symCfg.maxiLcReject
    let byte := fun k => (s.inBuf.get k).toNat
    let fails := fun k => k ∈ maxiSingles 0 0 s.message ∧
      ((reject = true ∧ 97 ≤ byte k ∧ byte k ≤ 122) ∨ ∀ set : Config.MaxiSet, maxiVal set (byte k) = none)
    (∀ i ∈ [Instr.maxiProduce, .maxiEncode], ∀ k, fails k → (∀ j, j < k → ¬ fails j) →
      RaisesError i s 5 0 (BitVec.ofNat 32 k)) ∧
    ((∀ k, ¬ fails k) → ∃ msg, maxiCodewords reject s.message = .ok msg) ∧
    ∀ msg, maxiCodewords reject s.message = .ok msg →
      let mode := s.size
      let sec := if mode = 5 then 68 else 84
      let structured := mode = 2 ∨ mode = 3
      let v := mode + (s.cfg.xHi.toNat * 2 ^ 32 + s.cfg.maxiPostal.toNat) * 2 ^ 4 + s.cfg.country.toNat * 2 ^ 40 +
        s.cfg.service.toNat * 2 ^ 50
      (msg.length ≤ (if structured then sec else sec + 9) →
        ∃ t, exec .maxiProduce s = .next t ∧
          (structured → (∀ i, i < 10 → t.cw.get i = BitVec.ofNat 10 (v / 2 ^ (6 * i) % 64)) ∧
            (∀ k, k < sec → t.cw.get (10 + k) = BitVec.ofNat 10 (msg.getD k maxiPad))) ∧
          (¬ structured → t.cw.get 0 = BitVec.ofNat 10 mode ∧
            ∀ k, k < 9 + sec → t.cw.get (1 + k) = BitVec.ofNat 10 (msg.getD k maxiPad)) ∧
          (∀ k, 10 + sec ≤ k → t.cw.get k = s.cw.get k) ∧
          t.res.cwMsg.toNat = msg.length ∧ t.res.cwData.toNat = 10 + sec ∧ t.res.cwTotal.toNat = 144 ∧
          t.res.selSize.toNat = mode ∧ t.res.selEcl = (if mode = 5 then 1 else 0) ∧
          t = { s with
            cw := t.cw, pipeSym := .maxi, pipeStage := .produced, done := true, latch := none
            res := { s.res with
              cwMsg := t.res.cwMsg, cwData := t.res.cwData, cwTotal := t.res.cwTotal, selSize := t.res.selSize
              selEcl := t.res.selEcl, selMode := 0 } }) ∧
      ((if structured then sec else sec + 9) < msg.length →
        ∀ i ∈ [Instr.maxiProduce, .maxiEncode], RaisesError i s 4 3 noIndex)

/-- A completed `MAXI_ECC` (46_maxicode_qr_producer R461, R475): with the stage in its place it always completes; the primary message, its
ten parity codewords, the secondary message moved to position 20 and the two interleaved parities fill `CW[0..144)`; all else is as
before. -/
def Obligations.MaxiEccResult : Prop :=
  ∀ s : State, s.pipeSym = .maxi → s.pipeStage = .produced → checkConfig .maxi s = none →
    let sec := if s.res.selSize = 5 then 68 else 84
    let e := if s.res.selSize = 5 then 28 else 20
    let p := (s.cw.nats 0 10).map (· % 64)
    let q := (s.cw.nats 10 sec).map (· % 64)
    let par := fun (nroots : Nat) (data : List Nat) => (rsParities rsMaxi nroots [data]).flatten
    let even := (List.range (sec / 2)).map fun k => q.getD (2 * k) 0
    let odd := (List.range (sec / 2)).map fun k => q.getD (2 * k + 1) 0
    ∃ t, exec .maxiEcc s = .next t ∧
      (∀ k, k < 10 → (t.cw.get k).toNat = (s.cw.get k).toNat % 64 ∧ (t.cw.get (10 + k)).toNat = (par 10 p).getD k 0) ∧
      (∀ k, k < sec → (t.cw.get (20 + k)).toNat = (s.cw.get (10 + k)).toNat % 64) ∧
      (∀ k, k < e → (t.cw.get (20 + sec + 2 * k)).toNat = (par e even).getD k 0 ∧
        (t.cw.get (20 + sec + 2 * k + 1)).toNat = (par e odd).getD k 0) ∧
      (∀ k, 144 ≤ k → t.cw.get k = s.cw.get k) ∧ t.res.cwTotal = 144 ∧
      t = { s with cw := t.cw, res := { s.res with cwTotal := 144 }, pipeStage := .protectedCw, done := true, latch := none }

/-- A completed `MAXI_LAYOUT` (47_dm_maxicode_layout R530 to R533, 40_control_pipeline R214): with the stage in its place it always
completes; the cell of bit `5 − j` of codeword `p` is dark exactly when that bit is 1, the fixed cells are dark function modules, every
other module of `MAT` is 0, and all else is as before. Where the cells lie stays open (log 13). -/
def Obligations.MaxiLayoutResult : Prop :=
  ∀ s : State, s.pipeSym = .maxi → s.pipeStage = .protectedCw → checkConfig .maxi s = none →
    ∃ t, exec .maxiLayout s = .next t ∧ t.outW = 30 ∧ t.outH = 33 ∧
      (∀ (p : Fin 144) (j : Fin 6), t.mat.get (matIndex (maxiMap p j).1 (maxiMap p j).2) =
        moduleBits ((s.cw.get p.val).toNat.testBit (5 - j.val)) false) ∧
      (∀ r c, r < 33 → c < 30 → maxiCellAt r c = .fixed → t.mat.get (matIndex r c) = moduleBits true true) ∧
      (∀ r c, r < 256 → c < 1024 → (33 ≤ r ∨ 30 ≤ c ∨ maxiCellAt r c = .unused) → t.mat.get (matIndex r c) = 0) ∧
      t = { s with mat := t.mat, outW := 30, outH := 33, pipeStage := .placed, done := true, latch := none }

/-- `MAXI_ENCODE` is its three stages (40_control_pipeline R232, R234): where the configuration is legal and the message can be encoded and
fits, it completes, and the state it leaves is the state the three stage commands leave one after another. -/
def Obligations.MaxiEncodeIsItsStages : Prop :=
  ∀ (s : State) (msg : List Nat), checkConfig .maxi s = none → maxiCodewords s.cfg.symCfg.maxiLcReject s.message = .ok msg →
    msg.length ≤ (if s.size = 5 then 77 else if s.size = 2 ∨ s.size = 3 then 84 else 93) →
    ∃ t1 t2 t, exec .maxiProduce s = .next t1 ∧ exec .maxiEcc t1 = .next t2 ∧ exec .maxiLayout t2 = .next t ∧
      exec .maxiEncode s = .next t ∧
      t.done = true ∧ t.err = s.err ∧ t.pipeSym = .maxi ∧ t.pipeStage = .placed ∧
      t = { s with
        cw := t.cw, mat := t.mat, outW := t.outW, outH := t.outH, res := t.res
        pipeSym := .maxi, pipeStage := .placed, done := true, latch := none }

/-! ### QR -/

/-- `QR_PRODUCE` of a legal configuration (46_maxicode_qr_producer R490 to R497). A forced mode raises `CHARSET` at the lowest byte it
cannot encode (R492), detail 1 for Numeric and 2 for Alphanumeric; a message that no version holds raises `CAPACITY` detail 2, one that the
requested version does not hold detail 3 (R493); `QR_ENCODE` raises the same errors. Otherwise exactly `D` data codewords stand in `CW`, the
result registers describe the version, the level and the mode used, `CW_MSG` is at most `CW_DATA` (70_reset_and_hazards R787), and all else
is as before. -/
def Obligations.QrProduceResult : Prop :=
  ∀ s : State, checkConfig .qr s = none →
    let byte := fun k => (s.inBuf.get k).toNat
    (∀ i ∈ [Instr.qrProduce, .qrEncode], ∀ k, k < s.n →
      (s.mode = 1 → ¬ isDigit (byte k) → (∀ j, j < k → isDigit (byte j)) → RaisesError i s 5 1 (BitVec.ofNat 32 k)) ∧
      (s.mode = 2 → byte k ∉ alnumChars → (∀ j, j < k → byte j ∈ alnumChars) → RaisesError i s 5 2 (BitVec.ofNat 32 k))) ∧
    ∀ m : QrMode, qrMode s.mode s.message = .ok m →
      let fits := fun v => qrLength s.gs1 m v s.n ≤ 8 * (qrBlocks .given v s.ecl).data
      (∀ i ∈ [Instr.qrProduce, .qrEncode],
        (s.size = 0 → (∀ v, 1 ≤ v → v ≤ 40 → ¬ fits v) → RaisesError i s 4 2 noIndex) ∧
        (s.size ≠ 0 → ¬ fits s.size → RaisesError i s 4 3 noIndex)) ∧
      ∀ v, qrVersion .given s.gs1 m s.size s.ecl s.n = .ok v →
        let q := qrBlocks .given v s.ecl
        let cws := qrCodewords .given s.gs1 m v s.ecl s.message
        ∃ t, exec .qrProduce s = .next t ∧ cws.length = q.data ∧
          (∀ k, k < q.data → (t.cw.get k).toNat = cws.getD k 0) ∧ (∀ k, q.data ≤ k → t.cw.get k = s.cw.get k) ∧
          t.res.qrBits.toNat = qrLength s.gs1 m v s.n ∧ t.res.cwMsg.toNat = (qrLength s.gs1 m v s.n + 7) / 8 ∧
          t.res.cwData.toNat = q.data ∧ t.res.cwMsg.toNat ≤ t.res.cwData.toNat ∧ t.res.cwTotal.toNat = q.total ∧
          t.res.selSize.toNat = v ∧ t.res.selEcl.toNat = s.ecl ∧ t.res.selMode.toNat = m.code ∧
          t = { s with
            cw := t.cw, pipeSym := .qr, pipeStage := .produced, done := true, latch := none
            res := { s.res with
              cwMsg := t.res.cwMsg, cwData := t.res.cwData, cwTotal := t.res.cwTotal, selSize := t.res.selSize
              selEcl := t.res.selEcl, selMode := t.res.selMode, qrBits := t.res.qrBits } }

/-- Version selection (46_maxicode_qr_producer R493) and the length of the stream (R494 to R496): automatic selection takes the smallest
version that holds the stream, a requested version must hold it, the stream has `B(v)` bits, and a count never overflows its field in a
version that fits. The last clause is no rule of the spec but its own inference, marked so in R496. -/
def Obligations.QrVersionSelection : Prop :=
  ∀ (gs1 : Bool) (m : QrMode) (lev : Nat) (bytes : List Nat), lev ≤ 3 →
    let n := bytes.length
    let fits := fun v => qrLength gs1 m v n ≤ 8 * (qrBlocks .given v lev).data
    (∀ v, qrVersion .given gs1 m 0 lev n = .ok v ↔ 1 ≤ v ∧ v ≤ 40 ∧ fits v ∧ ∀ u, 1 ≤ u → u < v → ¬ fits u) ∧
    ((∀ v, 1 ≤ v → v ≤ 40 → ¬ fits v) → qrVersion .given gs1 m 0 lev n = .error (errorAt .capacity 2)) ∧
    (∀ v, v ≠ 0 → qrVersion .given gs1 m v lev n = if fits v then .ok v else .error (errorAt .capacity 3)) ∧
    (∀ v, (qrHeader gs1 m v n ++ qrDataBits m bytes).length = qrLength gs1 m v n) ∧
    (∀ v, 1 ≤ v → v ≤ 40 → fits v → n < 2 ^ qrCountBits m v)

/-- A completed `QR_ECC` (46_maxicode_qr_producer R491, R505): with the stage in its place and a version and level of the table selected it
completes; the interleaved data and parity fill `CW[0..total)`, the first codeword staying first, and all else is as before. -/
def Obligations.QrEccResult : Prop :=
  ∀ s : State, s.pipeSym = .qr → s.pipeStage = .produced → checkConfig .qr s = none →
    1 ≤ s.res.selSize.toNat → s.res.selSize.toNat ≤ 40 → s.res.selEcl.toNat ≤ 3 →
    let q := qrBlocks .given s.res.selSize.toNat s.res.selEcl.toNat
    let data := (s.cw.nats 0 q.data).map (· % 256)
    let blocks := splitBlocks q.lengths data
    let par := rsParities rsQr q.e blocks
    let b := q.g1 + q.g2
    ∃ t, exec .qrEcc s = .next t ∧ blocks.flatten = data ∧ blocks.length = b ∧
      (∀ i j, i < q.d1 → j < b → (t.cw.get (i * b + j)).toNat = (blocks.getD j []).getD i 0) ∧
      (∀ j, j < q.g2 → (t.cw.get (q.d1 * b + j)).toNat = (blocks.getD (q.g1 + j) []).getD q.d1 0) ∧
      (∀ i j, i < q.e → j < b → (t.cw.get (q.data + i * b + j)).toNat = (par.getD j []).getD i 0) ∧
      (∀ k, q.total ≤ k → t.cw.get k = s.cw.get k) ∧ t.res.cwTotal.toNat = q.total ∧
      t = { s with
        cw := t.cw, res := { s.res with cwTotal := t.res.cwTotal }, pipeStage := .protectedCw, done := true, latch := none }

/-- The zigzag visits every data module exactly once (49_qr_layout_mask R607, R620): the data modules of a version are the modules of the
symbol outside the frame, without repetition. -/
def Obligations.QrZigzagOnce : Prop :=
  ∀ v : Nat, 1 ≤ v → v ≤ 40 → (qrDataModules .given v).Nodup ∧
    ∀ i j, (i, j) ∈ qrDataModules .given v ↔ i < qrWidth v ∧ j < qrWidth v ∧ qrFrame .given v i j = none

/-- A completed `QR_LAYOUT` (49_qr_layout_mask R600, R607, R620, 40_control_pipeline R214): the frame's modules are function modules of their
colour, the format area light, the data modules take the bits of the codewords in the order of the zigzag and 0 after the last, `MAT` is 0
outside the symbol, and all else is as before. -/
def Obligations.QrLayoutResult : Prop :=
  ∀ s : State, s.pipeSym = .qr → s.pipeStage = .protectedCw → checkConfig .qr s = none →
    let v := s.res.selSize.toNat
    let w := 17 + 4 * v
    let bits := ((s.cw.nats 0 (qrBlocks .given v 0).total).map (· % 256)).flatMap fun c => bitsMsb c 8
    1 ≤ v → v ≤ 40 →
    ∃ t, exec .qrLayout s = .next t ∧ t.outW.toNat = w ∧ t.outH.toNat = w ∧
      (∀ i j d, i < w → j < w → qrFrame .given v i j = some d → t.mat.get (matIndex i j) = moduleBits d true) ∧
      (∀ k, k < (qrDataModules .given v).length →
        t.mat.get (matIndex ((qrDataModules .given v).getD k (0, 0)).1 ((qrDataModules .given v).getD k (0, 0)).2) =
          moduleBits (bits.getD k 0 == 1) false) ∧
      (∀ i j, i < w → j < w → inFormatArea w i j = true → t.mat.get (matIndex i j) = moduleBits false true) ∧
      t.mat.get (matIndex (w - 8) 8) = moduleBits true true ∧
      (∀ r c, r < 256 → c < 1024 → (w ≤ r ∨ w ≤ c) → t.mat.get (matIndex r c) = 0) ∧
      t = { s with mat := t.mat, outW := t.outW, outH := t.outH, pipeStage := .placed, done := true, latch := none }

/-- A completed `QR_MASK` (49_qr_layout_mask R640, R641, R650, R651, 70_reset_and_hazards R787): the registers hold the eight penalties, the
selected mask is the lowest of the least, every data module is inverted exactly where its condition holds, the format area holds the format
information, the other function modules and everything outside the symbol stay, and all else is as before. A data module is one with
`FUNC = 0` in `MAT` (log 23). -/
def Obligations.QrMaskResult : Prop :=
  ∀ s : State, s.pipeSym = .qr → s.pipeStage = .placed → checkConfig .qr s = none →
    let v := s.res.selSize.toNat
    let w := 17 + 4 * v
    let lev := s.res.selEcl.toNat
    1 ≤ v → v ≤ 40 →
    ∃ (t : State) (m : Fin 8), exec .qrMask s = .next t ∧ t.res.qrMaskSel = BitVec.ofNat 3 m.val ∧
      (∀ k : Fin 8, (t.res.qrPenalty.get k).toNat = maskPenalty w lev k.val (matRows s.mat w w)) ∧
      (∀ k : Fin 8, (t.res.qrPenalty.get m).toNat ≤ (t.res.qrPenalty.get k).toNat) ∧
      (∀ k : Fin 8, k < m → (t.res.qrPenalty.get m).toNat < (t.res.qrPenalty.get k).toNat) ∧
      (∀ i j, i < w → j < w →
        let u := s.mat.get (matIndex i j)
        t.mat.get (matIndex i j) =
          match formatBit w i j with
          | some b => moduleBits ((qrFormatInfo lev m.val).testBit b) true
          | none => if isFunc u then u else moduleBits (isDark u != maskCondition m.val i j) false) ∧
      (∀ r c, r < 256 → c < 1024 → (w ≤ r ∨ w ≤ c) → t.mat.get (matIndex r c) = s.mat.get (matIndex r c)) ∧
      t = { s with
        mat := t.mat, pipeStage := .masked, done := true, latch := none
        res := { s.res with qrMaskSel := t.res.qrMaskSel, qrPenalty := t.res.qrPenalty } }

/-- `QR_ENCODE` is its four stages (40_control_pipeline R233, R234): where the configuration is legal and the message can be encoded and
fits, it completes, and the state it leaves is the state the four stage commands leave one after another. -/
def Obligations.QrEncodeIsItsStages : Prop :=
  ∀ (s : State) (m : QrMode) (v : Nat), checkConfig .qr s = none → qrMode s.mode s.message = .ok m →
    qrVersion .given s.gs1 m s.size s.ecl s.n = .ok v →
    ∃ t1 t2 t3 t, exec .qrProduce s = .next t1 ∧ exec .qrEcc t1 = .next t2 ∧ exec .qrLayout t2 = .next t3 ∧
      exec .qrMask t3 = .next t ∧ exec .qrEncode s = .next t ∧
      t.done = true ∧ t.err = s.err ∧ t.pipeSym = .qr ∧ t.pipeStage = .masked ∧ t.res.selSize.toNat = v ∧
      t = { s with
        cw := t.cw, mat := t.mat, outW := t.outW, outH := t.outH, res := t.res
        pipeSym := .qr, pipeStage := .masked, done := true, latch := none }
end

