-- ==== Sys2Proof/Laws/Buffer.lean ====
section
/-! SUPPORT. The laws of the buffer operations: what an entry holds after a write, that a range is its entries one by one, and
that every operation keeps the canonical form. -/

namespace Sys2Proof.Machine.Buffer

variable {base size width : Nat}

/-! ### Lists of cells -/

/-- What the first cell of a list gives for an index: its value, or the background. -/
def headValue (bg : Background) (base i : Nat) : List (Nat × BitVec width) → BitVec width
  | [] => bg.value (base + 4 * i) width
  | (k, v) :: _ => if k = i then v else bg.value (base + 4 * i) width

theorem get_eq_headValue (b : Buffer base size width) (i : Nat) :
    b.get i = headValue b.background base i (b.cellsFrom i) := by
  unfold get
  cases b.cellsFrom i <;> rfl

/-- Cells from `j` on are the same read off the cells from an earlier index on. -/
theorem dropWhile_dropWhile (cells : List (Nat × BitVec width)) (i j : Nat) (h : i ≤ j) :
    (cells.dropWhile fun c => decide (c.1 < i)).dropWhile (fun c => decide (c.1 < j)) =
      cells.dropWhile fun c => decide (c.1 < j) := by
  induction cells with
  | nil => rfl
  | cons c rest ih =>
    by_cases hi : c.1 < i
    · have hj : c.1 < j := by omega
      simp [hi, hj, ih]
    · simp [hi]

/-- Nothing is dropped when the first cell is at `j` or above. -/
theorem dropWhile_of_head {cells : List (Nat × BitVec width)} {j : Nat} (h : ∀ c rest, cells = c :: rest → j ≤ c.1) :
    (cells.dropWhile fun c => decide (c.1 < j)) = cells := by
  cases cells with
  | nil => rfl
  | cons c rest =>
    have := h c rest rfl
    simp [show ¬ c.1 < j by omega]

/-- The first cell from `i` on is not below `i`. -/
theorem head_dropWhile_not_lt {cells : List (Nat × BitVec width)} {i : Nat} {c : Nat × BitVec width}
    {rest : List (Nat × BitVec width)} (h : cells.dropWhile (fun c => decide (c.1 < i)) = c :: rest) : i ≤ c.1 := by
  have := List.head?_dropWhile_not (fun c : Nat × BitVec width => decide (c.1 < i)) cells
  rw [h] at this
  simpa using this

/-- `slice` reads the entries one by one. -/
theorem slice_eq (bg : Background) (base : Nat) (cells : List (Nat × BitVec width)) (n i : Nat) :
    slice bg base (cells.dropWhile fun c => decide (c.1 < i)) i n =
      (List.range n).map fun k => headValue bg base (i + k) (cells.dropWhile fun c => decide (c.1 < i + k)) := by
  induction n generalizing i with
  | zero => simp [slice]
  | succ n ih =>
    rw [List.range_succ_eq_map, List.map_cons, List.map_map]
    have tail : (List.range n).map ((fun k => headValue bg base (i + k)
        (cells.dropWhile fun c => decide (c.1 < i + k))) ∘ Nat.succ) =
        slice bg base (cells.dropWhile fun c => decide (c.1 < i + 1)) (i + 1) n := by
      rw [ih]
      apply List.map_congr_left
      intro k _
      simp only [Function.comp, Nat.succ_eq_add_one, show i + (k + 1) = i + 1 + k by omega]
    rw [tail]
    cases hd : cells.dropWhile (fun c => decide (c.1 < i)) with
    | nil =>
      have h1 := dropWhile_dropWhile cells i (i + 1) (by omega)
      rw [hd] at h1
      simp only [slice, headValue, Nat.add_zero, ← h1, List.dropWhile_nil]
    | cons c rest =>
      have h1 := dropWhile_dropWhile cells i (i + 1) (by omega)
      rw [hd, List.dropWhile_cons] at h1
      have hge := head_dropWhile_not_lt hd
      obtain ⟨k, v⟩ := c
      simp only at hge
      by_cases hk : k = i
      · subst hk
        simp only [Nat.lt_succ_self, decide_true, if_true] at h1
        simp only [slice, headValue, Nat.add_zero, if_true, h1]
      · have : ¬ k < i + 1 := by omega
        simp only [this, decide_false, Bool.false_eq_true, if_false] at h1
        simp only [slice, headValue, Nat.add_zero, if_neg hk, ← h1]

/-- `buf[i..i+n)` is its entries one by one (00_scope R14). -/
theorem range_eq (b : Buffer base size width) (i n : Nat) :
    b.range i n = (List.range n).map fun k => b.get (i + k) := by
  unfold range cellsFrom
  rw [slice_eq]
  apply List.map_congr_left
  intro k _
  rw [get_eq_headValue]
  rfl

@[simp] theorem range_length (b : Buffer base size width) (i n : Nat) : (b.range i n).length = n := by
  simp [range_eq]

@[simp] theorem nats_length (b : Buffer base size width) (i n : Nat) : (b.nats i n).length = n := by
  simp [nats]

/-- The `k`-th number read is the `k`-th entry. -/
theorem nats_getD (b : Buffer base size width) (i n k : Nat) (h : k < n) :
    (b.nats i n).getD k 0 = (b.get (i + k)).toNat := by
  simp [nats, range_eq, List.getD, h]

/-- Equal entries read as equal numbers. -/
theorem nats_congr {b c : Buffer base size width} {i n : Nat} (h : ∀ k, k < n → b.get (i + k) = c.get (i + k)) :
    b.nats i n = c.nats i n := by
  simp only [nats, range_eq, List.map_map]
  apply List.map_congr_left
  intro k hk
  simp [h k (List.mem_range.mp hk)]

/-! ### Writes -/

/-- What the cells of `listed` and those behind them give for an index in front of them. -/
theorem headValue_listed_before (bg : Background) (base : Nat) (vs : List (BitVec width))
    (tail : List (Nat × BitVec width)) (i j : Nat) (hj : j < i) (ht : ∀ c rest, tail = c :: rest → j < c.1) :
    headValue bg base j (listed bg i vs ++ tail) = bg.value (base + 4 * j) width := by
  induction vs generalizing i with
  | nil =>
    cases tail with
    | nil => rfl
    | cons c rest =>
      have := ht c rest rfl
      obtain ⟨k, v⟩ := c
      simp only at this
      simp [listed, headValue, show k ≠ j by omega]
  | cons v vs ih =>
    unfold listed
    split
    · exact ih (i + 1) (by omega)
    · simp [headValue, show i ≠ j by omega]

/-- Every listed cell lies in its range. -/
theorem listed_bounds (bg : Background) (vs : List (BitVec width)) (i : Nat) :
    ∀ c ∈ listed bg i vs, i ≤ c.1 ∧ c.1 < i + vs.length := by
  induction vs generalizing i with
  | nil => simp [listed]
  | cons v vs ih =>
    intro c hc
    unfold listed at hc
    split at hc
    · have := ih (i + 1) c hc
      simp only [List.length_cons]; omega
    · rcases List.mem_cons.mp hc with rfl | hc
      · simp
      · have := ih (i + 1) c hc
        simp only [List.length_cons]; omega

/-- The first cell of the listed cells and those behind them is at `i` or above. -/
theorem head_listed_append (bg : Background) (vs : List (BitVec width)) (tail : List (Nat × BitVec width)) (i : Nat)
    (ht : ∀ c rest, tail = c :: rest → i ≤ c.1) : ∀ c rest, listed bg i vs ++ tail = c :: rest → i ≤ c.1 := by
  intro c rest h
  cases hl : listed bg i vs with
  | nil => rw [hl] at h; exact ht c rest h
  | cons d ds =>
    have hd := (listed_bounds bg vs i d (by simp [hl])).1
    rw [hl, List.cons_append] at h
    injection h with h _
    exact h ▸ hd

/-- The listed cells give each index of their range its value. -/
theorem headValue_listed (bg : Background) (base : Nat) (vs : List (BitVec width)) (tail : List (Nat × BitVec width))
    (i k : Nat) (hk : k < vs.length) (ht : ∀ c rest, tail = c :: rest → i + vs.length ≤ c.1) :
    headValue bg base (i + k) ((listed bg i vs ++ tail).dropWhile fun c => decide (c.1 < i + k)) = vs[k] := by
  induction vs generalizing i k with
  | nil => simp at hk
  | cons v vs ih =>
    have ht' : ∀ c rest, tail = c :: rest → i + 1 + vs.length ≤ c.1 := by
      intro c rest h; have := ht c rest h; simp only [List.length_cons] at this; omega
    cases k with
    | zero =>
      have nodrop := dropWhile_of_head (head_listed_append bg (v :: vs) tail i
        (by intro c rest h; have := ht c rest h; omega))
      rw [Nat.add_zero]
      rw [nodrop]
      unfold listed
      split
      next h =>
        have := headValue_listed_before bg base vs tail (i + 1) i (by omega)
          (by intro c rest h; have := ht' c rest h; omega)
        rw [this]
        simp [h.1, h.2, Background.value]
      · simp [headValue]
    | succ k =>
      have key := ih (i + 1) k (by simpa using hk) ht'
      rw [show i + 1 + k = i + (k + 1) by omega] at key
      unfold listed
      split
      · simpa using key
      · simpa [List.dropWhile_cons] using key

/-- Dropping below `j` skips every cell of a list that lies below `j`. -/
theorem dropWhile_append_all (l tail : List (Nat × BitVec width)) (j : Nat) (h : ∀ c ∈ l, c.1 < j) :
    (l ++ tail).dropWhile (fun c => decide (c.1 < j)) = tail.dropWhile fun c => decide (c.1 < j) := by
  induction l with
  | nil => rfl
  | cons c rest ih =>
    have hc := h c (by simp)
    simp only [List.cons_append, List.dropWhile_cons, hc, decide_true, if_true]
    exact ih fun d hd => h d (by simp [hd])

/-- The cells in front of a write give an index below it what the whole list gave. -/
theorem headValue_takeWhile (bg : Background) (base : Nat) (cells tail : List (Nat × BitVec width)) (i j : Nat) (hj : j < i)
    (ht : headValue bg base j (tail.dropWhile fun c => decide (c.1 < j)) = bg.value (base + 4 * j) width) :
    headValue bg base j (((cells.takeWhile fun c => decide (c.1 < i)) ++ tail).dropWhile fun c => decide (c.1 < j)) =
      headValue bg base j (cells.dropWhile fun c => decide (c.1 < j)) := by
  induction cells with
  | nil => simpa [headValue] using ht
  | cons c rest ih =>
    obtain ⟨k, v⟩ := c
    by_cases hki : k < i
    · by_cases hkj : k < j
      · simpa [hki, hkj] using ih
      · simp [hki, hkj, headValue]
    · have hkj : ¬ k < j := by omega
      have hd : ((k, v) :: rest).dropWhile (fun c => decide (c.1 < j)) = (k, v) :: rest := by simp [hkj]
      have hv : headValue bg base j ((k, v) :: rest) = bg.value (base + 4 * j) width := by
        simp [headValue, show k ≠ j by omega]
      rw [hd, hv, List.takeWhile_cons_of_neg (by simpa using hki), List.nil_append, ht]

/-- What every entry holds after a write (00_scope R14): the written values where they fall inside the buffer, and every other
entry as before. -/
theorem get_write (b : Buffer base size width) (i j : Nat) (vs : List (BitVec width)) :
    (b.write i vs).get j =
      if h : i ≤ j ∧ j - i < vs.length ∧ j < size then vs[j - i]'h.2.1 else b.get j := by
  simp only [get_eq_headValue]
  unfold write cellsFrom
  simp only
  generalize hk : vs.take (size - i) = kept
  have hlen : kept.length = min (size - i) vs.length := by rw [← hk]; simp
  have tailHead : ∀ c rest, (b.cells.dropWhile fun c => decide (c.1 < i + kept.length)) = c :: rest →
      i + kept.length ≤ c.1 := fun c rest h => head_dropWhile_not_lt h
  by_cases hji : j < i
  · rw [dif_neg (by omega), List.append_assoc]
    apply headValue_takeWhile _ _ _ _ _ _ hji
    have hge := head_listed_append b.background kept _ i
      (fun c rest h => by have := tailHead c rest h; omega)
    rw [dropWhile_of_head fun c rest h => by have := hge c rest h; omega]
    exact headValue_listed_before _ _ _ _ _ _ hji fun c rest h => by have := tailHead c rest h; omega
  · rw [List.append_assoc, dropWhile_append_all _ _ _ (by
      intro c hc
      have := List.mem_takeWhile_imp hc
      simp only [decide_eq_true_eq] at this
      omega)]
    by_cases hin : j < i + kept.length
    · have h1 : j - i < kept.length := by omega
      have key := headValue_listed b.background base kept
        (b.cells.dropWhile fun c => decide (c.1 < i + kept.length)) i (j - i) h1 tailHead
      rw [show i + (j - i) = j by omega] at key
      rw [dif_pos (by omega), key]
      subst hk
      simp
    · rw [dropWhile_append_all _ _ _ (by
        intro c hc
        have := (listed_bounds b.background kept i c hc).2
        omega), dropWhile_dropWhile _ _ _ (by omega)]
      rw [dif_neg (by omega)]

/-- An entry outside the written range is as before. -/
theorem get_write_of_not_mem (b : Buffer base size width) (i j : Nat) (vs : List (BitVec width))
    (h : j < i ∨ i + vs.length ≤ j) : (b.write i vs).get j = b.get j := by
  rw [get_write, dif_neg (by omega)]

/-- A written entry inside the buffer holds its value. -/
theorem get_write_of_mem (b : Buffer base size width) (i k : Nat) (vs : List (BitVec width)) (hk : k < vs.length)
    (hs : i + k < size) : (b.write i vs).get (i + k) = vs[k] := by
  rw [get_write, dif_pos ⟨by omega, by omega, hs⟩]
  simp

/-- One entry after `MemWrite(buf, i, v)` (00_scope R14). -/
theorem get_set (b : Buffer base size width) (i j : Nat) (v : BitVec width) (hi : i < size) :
    (b.set i v).get j = if j = i then v else b.get j := by
  unfold set
  rw [get_write]
  by_cases h : j = i
  · subst h; simp [hi]
  · rw [dif_neg (by simp; omega), if_neg h]

/-- One entry after numbers are written. -/
theorem get_writeNats (b : Buffer base size width) (i j : Nat) (vs : List Nat) :
    (b.writeNats i vs).get j =
      if i ≤ j ∧ j - i < vs.length ∧ j < size then BitVec.ofNat width (vs.getD (j - i) 0) else b.get j := by
  unfold writeNats
  rw [get_write]
  by_cases h : i ≤ j ∧ j - i < vs.length ∧ j < size
  · rw [dif_pos (by simpa using h), if_pos h]
    simp [List.getD, h.2.1]
  · rw [dif_neg (by simpa using h), if_neg h]

/-- An entry outside the written numbers is as before. -/
theorem get_writeNats_of_not_mem (b : Buffer base size width) (i j : Nat) (vs : List Nat)
    (h : j < i ∨ i + vs.length ≤ j) : (b.writeNats i vs).get j = b.get j := by
  rw [get_writeNats, if_neg (by omega)]

/-- Numbers that fit the entries read back as they were written. -/
theorem nats_writeNats (b : Buffer base size width) (i : Nat) (vs : List Nat) (hs : i + vs.length ≤ size)
    (hv : ∀ v ∈ vs, v < 2 ^ width) : (b.writeNats i vs).nats i vs.length = vs := by
  apply List.ext_getElem (by simp)
  intro k h1 h2
  have hk : k < vs.length := by simpa using h1
  simp only [nats, range_eq, List.map_map, List.getElem_map, List.getElem_range, Function.comp]
  rw [get_writeNats, if_pos ⟨by omega, by omega, by omega⟩]
  simp [List.getD, hk, Nat.mod_eq_of_lt (hv _ (List.getElem_mem hk))]

/-! ### Fresh and cleared buffers -/

@[simp] theorem get_cleared (i : Nat) : (cleared : Buffer base size width).get i = 0 := by
  simp [get, cellsFrom, cleared, Background.value]

@[simp] theorem get_unspecified (n i : Nat) :
    (unspecified n : Buffer base size width).get i = (Config.bufferDraw n (base + 4 * i)).setWidth width := by
  simp [get, cellsFrom, unspecified, Background.value]

/-! ### The canonical form -/

theorem cleared_wf : (cleared : Buffer base size width).wf := by simp [wf, cleared]

theorem unspecified_wf (n : Nat) : (unspecified n : Buffer base size width).wf := by simp [wf, unspecified]

theorem listed_sorted (bg : Background) (vs : List (BitVec width)) (i : Nat) :
    ((listed bg i vs).map Prod.fst).Pairwise (· < ·) := by
  induction vs generalizing i with
  | nil => simp [listed]
  | cons v vs ih =>
    unfold listed
    split
    · exact ih (i + 1)
    · rw [List.map_cons, List.pairwise_cons]
      refine ⟨?_, ih (i + 1)⟩
      intro k hk
      obtain ⟨c, hc, rfl⟩ := List.mem_map.mp hk
      have := (listed_bounds bg vs (i + 1) c hc).1
      simp only; omega

theorem listed_nonzero (vs : List (BitVec width)) (i : Nat) : ∀ c ∈ listed .zero i vs, c.2 ≠ 0 := by
  induction vs generalizing i with
  | nil => simp [listed]
  | cons v vs ih =>
    intro c hc
    unfold listed at hc
    split at hc
    · exact ih (i + 1) c hc
    · rcases List.mem_cons.mp hc with rfl | hc
      · rename_i hn
        simpa using hn
      · exact ih (i + 1) c hc

/-- A sorted list of cells from `i` on holds no cell below `i`. -/
theorem mem_dropWhile_ge {cells : List (Nat × BitVec width)} (h : (cells.map Prod.fst).Pairwise (· < ·)) (i : Nat) :
    ∀ c ∈ cells.dropWhile (fun c => decide (c.1 < i)), i ≤ c.1 := by
  induction cells with
  | nil => simp
  | cons d rest ih =>
    rw [List.map_cons, List.pairwise_cons] at h
    intro c hc
    rw [List.dropWhile_cons] at hc
    split at hc
    · exact ih h.2 c hc
    next hd =>
      simp only [decide_eq_true_eq] at hd
      rcases List.mem_cons.mp hc with rfl | hc
      · omega
      · have := h.1 c.1 (List.mem_map.mpr ⟨c, hc, rfl⟩)
        omega

/-- A write keeps the canonical form (log 3). -/
theorem write_wf {b : Buffer base size width} (h : b.wf) (i : Nat) (vs : List (BitVec width)) : (b.write i vs).wf := by
  obtain ⟨hsorted, hsize, hzero⟩ := h
  unfold write cellsFrom
  simp only
  generalize hk : vs.take (size - i) = kept
  have hlen : kept.length ≤ size - i := by rw [← hk]; simp
  have htake : ∀ c ∈ b.cells.takeWhile (fun c => decide (c.1 < i)), c.1 < i ∧ c ∈ b.cells := fun c hc =>
    ⟨by simpa using List.mem_takeWhile_imp hc, (List.takeWhile_prefix _).subset hc⟩
  have hdrop : ∀ c ∈ b.cells.dropWhile (fun c => decide (c.1 < i + kept.length)), i + kept.length ≤ c.1 ∧ c ∈ b.cells :=
    fun c hc => ⟨mem_dropWhile_ge hsorted _ c hc, (List.dropWhile_suffix _).subset hc⟩
  refine ⟨?_, ?_, ?_⟩
  · simp only [List.map_append, List.append_assoc]
    rw [List.pairwise_append, List.pairwise_append]
    refine ⟨?_, ⟨listed_sorted _ _ _, ?_, ?_⟩, ?_⟩
    · exact hsorted.sublist ((List.takeWhile_prefix _).sublist.map _)
    · exact hsorted.sublist ((List.dropWhile_suffix _).sublist.map _)
    · intro x hx y hy
      obtain ⟨c, hc, rfl⟩ := List.mem_map.mp hx
      obtain ⟨d, hd, rfl⟩ := List.mem_map.mp hy
      have := (listed_bounds _ _ _ c hc).2
      have := (hdrop d hd).1
      omega
    · intro x hx y hy
      obtain ⟨c, hc, rfl⟩ := List.mem_map.mp hx
      have h1 := (htake c hc).1
      rcases List.mem_append.mp hy with hy | hy
      · obtain ⟨d, hd, rfl⟩ := List.mem_map.mp hy
        have := (listed_bounds _ _ _ d hd).1
        omega
      · obtain ⟨d, hd, rfl⟩ := List.mem_map.mp hy
        have := (hdrop d hd).1
        omega
  · intro c hc
    rcases List.mem_append.mp hc with hc | hc
    · rcases List.mem_append.mp hc with hc | hc
      · exact hsize c (htake c hc).2
      · have := (listed_bounds _ _ _ c hc)
        omega
    · exact hsize c (hdrop c hc).2
  · intro hbg c hc
    simp only at hbg
    rcases List.mem_append.mp hc with hc | hc
    · rcases List.mem_append.mp hc with hc | hc
      · exact hzero hbg c (htake c hc).2
      · rw [hbg] at hc
        exact listed_nonzero _ _ c hc
    · exact hzero hbg c (hdrop c hc).2

theorem set_wf {b : Buffer base size width} (h : b.wf) (i : Nat) (v : BitVec width) : (b.set i v).wf := write_wf h i [v]

theorem writeNats_wf {b : Buffer base size width} (h : b.wf) (i : Nat) (vs : List Nat) : (b.writeNats i vs).wf :=
  write_wf h i _

@[simp] theorem write_background (b : Buffer base size width) (i : Nat) (vs : List (BitVec width)) :
    (b.write i vs).background = b.background := rfl

@[simp] theorem set_background (b : Buffer base size width) (i : Nat) (v : BitVec width) :
    (b.set i v).background = b.background := rfl

@[simp] theorem writeNats_background (b : Buffer base size width) (i : Nat) (vs : List Nat) :
    (b.writeNats i vs).background = b.background := rfl

end Sys2Proof.Machine.Buffer
end

