-- ==== Sys2Proof/Laws/Matrix.lean ====
section
/-! SUPPORT. The laws of the module matrix: what `MAT[r][c]` holds after the rows of a symbol are written. -/

namespace Sys2Proof.Machine

/-- The cell of a row, or what was there before. -/
theorem get_write_row (m : MatBuffer) (r r' c : Nat) (row : List (BitVec 2)) (hc : c < 1024) :
    (m.write (matIndex r 0) (row.take 1024)).get (matIndex r' c) =
      if r' = r ∧ c < row.length ∧ r' < 256 then row.getD c 0 else m.get (matIndex r' c) := by
  rw [Buffer.get_write]
  unfold matIndex
  by_cases h : r' = r ∧ c < row.length ∧ r' < 256
  · obtain ⟨rfl, h1, h2⟩ := h
    rw [dif_pos (by simp only [List.length_take]; omega), if_pos ⟨rfl, h1, h2⟩]
    simp [List.getD, h1]
  · rw [dif_neg (by simp only [List.length_take]; omega), if_neg h]

/-- What a module holds after rows are written from row `r0` on. -/
theorem get_writeRows (m : MatBuffer) (r0 r c : Nat) (rows : List (List (BitVec 2))) (hc : c < 1024) (hr : r < 256) :
    (writeRows m r0 rows).get (matIndex r c) =
      if r0 ≤ r ∧ r - r0 < rows.length ∧ c < (rows.getD (r - r0) []).length then (rows.getD (r - r0) []).getD c 0
      else m.get (matIndex r c) := by
  induction rows generalizing m r0 with
  | nil => simp [writeRows]
  | cons row rest ih =>
    unfold writeRows
    rw [ih, get_write_row _ _ _ _ _ hc]
    by_cases h : r = r0
    · subst h
      simp [hr]
    · by_cases hlt : r0 < r
      · obtain ⟨k, rfl⟩ : ∃ k, r = r0 + 1 + k := ⟨r - r0 - 1, by omega⟩
        have e1 : r0 + 1 + k - (r0 + 1) = k := by omega
        have e2 : r0 + 1 + k - r0 = k + 1 := by omega
        have e3 : ¬ (r0 + 1 + k = r0) := by omega
        have e4 : r0 ≤ r0 + 1 + k := by omega
        simp only [e1, e2, e3, e4, false_and, if_false, List.getD_cons_succ, List.length_cons, Nat.add_lt_add_iff_right,
          true_and, show r0 + 1 ≤ r0 + 1 + k by omega]
      · rw [if_neg (by omega), if_neg (by omega), if_neg (by omega)]

/-- A module of the matrix of a layout command: the symbol's inside its extent, 0 outside (10_state R79,
40_control_pipeline R214). -/
theorem get_matOfRows (rows : List (List (BitVec 2))) (r c : Nat) (hc : c < 1024) (hr : r < 256) :
    (matOfRows rows).get (matIndex r c) = (rows.getD r []).getD c 0 := by
  unfold matOfRows
  rw [get_writeRows _ _ _ _ _ hc hr]
  by_cases h : r < rows.length ∧ c < (rows.getD r []).length
  · rw [if_pos ⟨by omega, by simpa using h.1, by simpa using h.2⟩]
    simp
  · rw [if_neg (by simpa using h), Buffer.get_cleared]
    by_cases h1 : r < rows.length
    · rw [List.getD_eq_default _ _ (by by_contra h2; exact h ⟨h1, by omega⟩)]
    · rw [List.getD_eq_default rows _ (by omega)]
      simp

theorem writeRows_wf {m : MatBuffer} (h : m.wf) (r : Nat) (rows : List (List (BitVec 2))) : (writeRows m r rows).wf := by
  induction rows generalizing m r with
  | nil => exact h
  | cons row rest ih => exact ih (Buffer.write_wf h _ _) _

theorem matOfRows_wf (rows : List (List (BitVec 2))) : (matOfRows rows).wf := writeRows_wf Buffer.cleared_wf _ _

@[simp] theorem writeRows_background (m : MatBuffer) (r : Nat) (rows : List (List (BitVec 2))) :
    (writeRows m r rows).background = m.background := by
  induction rows generalizing m r with
  | nil => rfl
  | cons row rest ih => exact ih _ _

@[simp] theorem matOfRows_background (rows : List (List (BitVec 2))) : (matOfRows rows).background = .zero := by
  simp [matOfRows, Buffer.cleared]

/-- The modules of `MAT[0..h)[0..w)` one by one. -/
theorem matRows_get (m : MatBuffer) (h w r c : Nat) (hr : r < h) (hc : c < w) :
    ((matRows m h w).getD r []).getD c 0 = m.get (matIndex r c) := by
  simp [matRows, List.getD, hr, hc, Buffer.range_eq, matIndex]

/-- The cell of a grid given cell by cell. -/
theorem Grid.getD_ofFn {α : Type} (rows cols : Nat) (f : Nat → Nat → α) (r c : Nat) (d : α) (hr : r < rows) (hc : c < cols) :
    ((Grid.ofFn rows cols f).getD r []).getD c d = f r c := by
  simp [Grid.ofFn, List.getD, hr, hc]

/-- Outside its extent a grid given cell by cell has no cell. -/
theorem Grid.getD_ofFn_outside {α : Type} (rows cols : Nat) (f : Nat → Nat → α) (r c : Nat) (d : α)
    (h : rows ≤ r ∨ cols ≤ c) : ((Grid.ofFn rows cols f).getD r []).getD c d = d := by
  by_cases hr : r < rows
  · simp [Grid.ofFn, List.getD, hr, show cols ≤ c by omega]
  · simp [Grid.ofFn, List.getD, show rows ≤ r by omega]

end Sys2Proof.Machine
end

