-- ==== Sys2Proof/Laws/State.lean ====
section
/-! SUPPORT. What every update of the state does to every field, one lemma for each, all true by unfolding. -/

namespace Sys2Proof.Machine.State

variable (s : State)

/-! ### `accept` -/

@[simp] theorem accept_ctrl (w : Word) : (s.accept w).ctrl = s.ctrl := rfl
@[simp] theorem accept_done (w : Word) : (s.accept w).done = false := rfl
@[simp] theorem accept_err (w : Word) : (s.accept w).err = false := rfl
@[simp] theorem accept_cmdReject (w : Word) : (s.accept w).cmdReject = s.cmdReject := rfl
@[simp] theorem accept_busViol (w : Word) : (s.accept w).busViol = s.busViol := rfl
@[simp] theorem accept_rsReady (w : Word) : (s.accept w).rsReady = s.rsReady := rfl
@[simp] theorem accept_pipeSym (w : Word) : (s.accept w).pipeSym = s.pipeSym := rfl
@[simp] theorem accept_pipeStage (w : Word) : (s.accept w).pipeStage = s.pipeStage := rfl
@[simp] theorem accept_errCode (w : Word) : (s.accept w).errCode = 0 := rfl
@[simp] theorem accept_errDetail (w : Word) : (s.accept w).errDetail = 0 := rfl
@[simp] theorem accept_errIndex (w : Word) : (s.accept w).errIndex = noIndex := rfl
@[simp] theorem accept_cfg (w : Word) : (s.accept w).cfg = s.cfg := rfl
@[simp] theorem accept_rs (w : Word) : (s.accept w).rs = s.rs := rfl
@[simp] theorem accept_act (w : Word) : (s.accept w).act = s.act := rfl
@[simp] theorem accept_outW (w : Word) : (s.accept w).outW = s.outW := rfl
@[simp] theorem accept_outH (w : Word) : (s.accept w).outH = s.outH := rfl
@[simp] theorem accept_res (w : Word) : (s.accept w).res = s.res := rfl
@[simp] theorem accept_inBuf (w : Word) : (s.accept w).inBuf = s.inBuf := rfl
@[simp] theorem accept_cw (w : Word) : (s.accept w).cw = s.cw := rfl
@[simp] theorem accept_plan (w : Word) : (s.accept w).plan = s.plan := rfl
@[simp] theorem accept_alphaTo (w : Word) : (s.accept w).alphaTo = s.alphaTo := rfl
@[simp] theorem accept_indexOf (w : Word) : (s.accept w).indexOf = s.indexOf := rfl
@[simp] theorem accept_genpoly (w : Word) : (s.accept w).genpoly = s.genpoly := rfl
@[simp] theorem accept_mat (w : Word) : (s.accept w).mat = s.mat := rfl
@[simp] theorem accept_latch (w : Word) : (s.accept w).latch = some w := rfl
@[simp] theorem accept_rst (w : Word) : (s.accept w).rst = s.rst := rfl
@[simp] theorem accept_draws (w : Word) : (s.accept w).draws = s.draws := rfl
@[simp] theorem accept_pending (w : Word) : (s.accept w).pending = s.pending := rfl
@[simp] theorem accept_responses (w : Word) : (s.accept w).responses = s.responses := rfl

/-! ### `complete` -/

@[simp] theorem complete_ctrl : (s.complete).ctrl = s.ctrl := rfl
@[simp] theorem complete_done : (s.complete).done = true := rfl
@[simp] theorem complete_err : (s.complete).err = s.err := rfl
@[simp] theorem complete_cmdReject : (s.complete).cmdReject = s.cmdReject := rfl
@[simp] theorem complete_busViol : (s.complete).busViol = s.busViol := rfl
@[simp] theorem complete_rsReady : (s.complete).rsReady = s.rsReady := rfl
@[simp] theorem complete_pipeSym : (s.complete).pipeSym = s.pipeSym := rfl
@[simp] theorem complete_pipeStage : (s.complete).pipeStage = s.pipeStage := rfl
@[simp] theorem complete_errCode : (s.complete).errCode = s.errCode := rfl
@[simp] theorem complete_errDetail : (s.complete).errDetail = s.errDetail := rfl
@[simp] theorem complete_errIndex : (s.complete).errIndex = s.errIndex := rfl
@[simp] theorem complete_cfg : (s.complete).cfg = s.cfg := rfl
@[simp] theorem complete_rs : (s.complete).rs = s.rs := rfl
@[simp] theorem complete_act : (s.complete).act = s.act := rfl
@[simp] theorem complete_outW : (s.complete).outW = s.outW := rfl
@[simp] theorem complete_outH : (s.complete).outH = s.outH := rfl
@[simp] theorem complete_res : (s.complete).res = s.res := rfl
@[simp] theorem complete_inBuf : (s.complete).inBuf = s.inBuf := rfl
@[simp] theorem complete_cw : (s.complete).cw = s.cw := rfl
@[simp] theorem complete_plan : (s.complete).plan = s.plan := rfl
@[simp] theorem complete_alphaTo : (s.complete).alphaTo = s.alphaTo := rfl
@[simp] theorem complete_indexOf : (s.complete).indexOf = s.indexOf := rfl
@[simp] theorem complete_genpoly : (s.complete).genpoly = s.genpoly := rfl
@[simp] theorem complete_mat : (s.complete).mat = s.mat := rfl
@[simp] theorem complete_latch : (s.complete).latch = none := rfl
@[simp] theorem complete_rst : (s.complete).rst = s.rst := rfl
@[simp] theorem complete_draws : (s.complete).draws = s.draws := rfl
@[simp] theorem complete_pending : (s.complete).pending = s.pending := rfl
@[simp] theorem complete_responses : (s.complete).responses = s.responses := rfl

/-! ### `raise` -/

@[simp] theorem raise_ctrl (e : CmdError) : (s.raise e).ctrl = s.ctrl := rfl
@[simp] theorem raise_done (e : CmdError) : (s.raise e).done = s.done := rfl
@[simp] theorem raise_err (e : CmdError) : (s.raise e).err = true := rfl
@[simp] theorem raise_cmdReject (e : CmdError) : (s.raise e).cmdReject = s.cmdReject := rfl
@[simp] theorem raise_busViol (e : CmdError) : (s.raise e).busViol = s.busViol := rfl
@[simp] theorem raise_rsReady (e : CmdError) : (s.raise e).rsReady = s.rsReady := rfl
@[simp] theorem raise_pipeSym (e : CmdError) : (s.raise e).pipeSym = .noSym := rfl
@[simp] theorem raise_pipeStage (e : CmdError) : (s.raise e).pipeStage = .noStage := rfl
@[simp] theorem raise_errCode (e : CmdError) : (s.raise e).errCode = BitVec.ofNat 8 e.code.number := rfl
@[simp] theorem raise_errDetail (e : CmdError) : (s.raise e).errDetail = BitVec.ofNat 8 e.detail := rfl
@[simp] theorem raise_errIndex (e : CmdError) : (s.raise e).errIndex = e.index := rfl
@[simp] theorem raise_cfg (e : CmdError) : (s.raise e).cfg = s.cfg := rfl
@[simp] theorem raise_rs (e : CmdError) : (s.raise e).rs = s.rs := rfl
@[simp] theorem raise_act (e : CmdError) : (s.raise e).act = s.act := rfl
@[simp] theorem raise_outW (e : CmdError) : (s.raise e).outW = 0 := rfl
@[simp] theorem raise_outH (e : CmdError) : (s.raise e).outH = 0 := rfl
@[simp] theorem raise_res (e : CmdError) : (s.raise e).res = drawnResults s.draws := rfl
@[simp] theorem raise_inBuf (e : CmdError) : (s.raise e).inBuf = s.inBuf := rfl
@[simp] theorem raise_cw (e : CmdError) : (s.raise e).cw = s.cw := rfl
@[simp] theorem raise_plan (e : CmdError) : (s.raise e).plan = s.plan := rfl
@[simp] theorem raise_alphaTo (e : CmdError) : (s.raise e).alphaTo = s.alphaTo := rfl
@[simp] theorem raise_indexOf (e : CmdError) : (s.raise e).indexOf = s.indexOf := rfl
@[simp] theorem raise_genpoly (e : CmdError) : (s.raise e).genpoly = s.genpoly := rfl
@[simp] theorem raise_mat (e : CmdError) : (s.raise e).mat = s.mat := rfl
@[simp] theorem raise_latch (e : CmdError) : (s.raise e).latch = none := rfl
@[simp] theorem raise_rst (e : CmdError) : (s.raise e).rst = s.rst := rfl
@[simp] theorem raise_draws (e : CmdError) : (s.raise e).draws = s.draws + 1 := rfl
@[simp] theorem raise_pending (e : CmdError) : (s.raise e).pending = s.pending := rfl
@[simp] theorem raise_responses (e : CmdError) : (s.raise e).responses = s.responses := rfl

/-! ### `dropTables` -/

@[simp] theorem dropTables_ctrl : (s.dropTables).ctrl = s.ctrl := rfl
@[simp] theorem dropTables_done : (s.dropTables).done = s.done := rfl
@[simp] theorem dropTables_err : (s.dropTables).err = s.err := rfl
@[simp] theorem dropTables_cmdReject : (s.dropTables).cmdReject = s.cmdReject := rfl
@[simp] theorem dropTables_busViol : (s.dropTables).busViol = s.busViol := rfl
@[simp] theorem dropTables_rsReady : (s.dropTables).rsReady = s.rsReady := rfl
@[simp] theorem dropTables_pipeSym : (s.dropTables).pipeSym = s.pipeSym := rfl
@[simp] theorem dropTables_pipeStage : (s.dropTables).pipeStage = s.pipeStage := rfl
@[simp] theorem dropTables_errCode : (s.dropTables).errCode = s.errCode := rfl
@[simp] theorem dropTables_errDetail : (s.dropTables).errDetail = s.errDetail := rfl
@[simp] theorem dropTables_errIndex : (s.dropTables).errIndex = s.errIndex := rfl
@[simp] theorem dropTables_cfg : (s.dropTables).cfg = s.cfg := rfl
@[simp] theorem dropTables_rs : (s.dropTables).rs = s.rs := rfl
@[simp] theorem dropTables_act : (s.dropTables).act = s.act := rfl
@[simp] theorem dropTables_outW : (s.dropTables).outW = s.outW := rfl
@[simp] theorem dropTables_outH : (s.dropTables).outH = s.outH := rfl
@[simp] theorem dropTables_res : (s.dropTables).res = s.res := rfl
@[simp] theorem dropTables_inBuf : (s.dropTables).inBuf = s.inBuf := rfl
@[simp] theorem dropTables_cw : (s.dropTables).cw = s.cw := rfl
@[simp] theorem dropTables_plan : (s.dropTables).plan = s.plan := rfl
@[simp] theorem dropTables_alphaTo : (s.dropTables).alphaTo = Buffer.unspecified s.draws := rfl
@[simp] theorem dropTables_indexOf : (s.dropTables).indexOf = Buffer.unspecified s.draws := rfl
@[simp] theorem dropTables_genpoly : (s.dropTables).genpoly = Buffer.unspecified s.draws := rfl
@[simp] theorem dropTables_mat : (s.dropTables).mat = s.mat := rfl
@[simp] theorem dropTables_latch : (s.dropTables).latch = s.latch := rfl
@[simp] theorem dropTables_rst : (s.dropTables).rst = s.rst := rfl
@[simp] theorem dropTables_draws : (s.dropTables).draws = s.draws + 1 := rfl
@[simp] theorem dropTables_pending : (s.dropTables).pending = s.pending := rfl
@[simp] theorem dropTables_responses : (s.dropTables).responses = s.responses := rfl

/-! ### `raiseRsInit` -/

@[simp] theorem raiseRsInit_ctrl (e : CmdError) : (s.raiseRsInit e).ctrl = s.ctrl := rfl
@[simp] theorem raiseRsInit_done (e : CmdError) : (s.raiseRsInit e).done = s.done := rfl
@[simp] theorem raiseRsInit_err (e : CmdError) : (s.raiseRsInit e).err = true := rfl
@[simp] theorem raiseRsInit_cmdReject (e : CmdError) : (s.raiseRsInit e).cmdReject = s.cmdReject := rfl
@[simp] theorem raiseRsInit_busViol (e : CmdError) : (s.raiseRsInit e).busViol = s.busViol := rfl
@[simp] theorem raiseRsInit_rsReady (e : CmdError) : (s.raiseRsInit e).rsReady = false := rfl
@[simp] theorem raiseRsInit_pipeSym (e : CmdError) : (s.raiseRsInit e).pipeSym = .noSym := rfl
@[simp] theorem raiseRsInit_pipeStage (e : CmdError) : (s.raiseRsInit e).pipeStage = .noStage := rfl
@[simp] theorem raiseRsInit_errCode (e : CmdError) : (s.raiseRsInit e).errCode = BitVec.ofNat 8 e.code.number := rfl
@[simp] theorem raiseRsInit_errDetail (e : CmdError) : (s.raiseRsInit e).errDetail = BitVec.ofNat 8 e.detail := rfl
@[simp] theorem raiseRsInit_errIndex (e : CmdError) : (s.raiseRsInit e).errIndex = e.index := rfl
@[simp] theorem raiseRsInit_cfg (e : CmdError) : (s.raiseRsInit e).cfg = s.cfg := rfl
@[simp] theorem raiseRsInit_rs (e : CmdError) : (s.raiseRsInit e).rs = s.rs := rfl
@[simp] theorem raiseRsInit_act (e : CmdError) : (s.raiseRsInit e).act = RsActive.reset := rfl
@[simp] theorem raiseRsInit_outW (e : CmdError) : (s.raiseRsInit e).outW = 0 := rfl
@[simp] theorem raiseRsInit_outH (e : CmdError) : (s.raiseRsInit e).outH = 0 := rfl
@[simp] theorem raiseRsInit_res (e : CmdError) : (s.raiseRsInit e).res = drawnResults s.draws := rfl
@[simp] theorem raiseRsInit_inBuf (e : CmdError) : (s.raiseRsInit e).inBuf = s.inBuf := rfl
@[simp] theorem raiseRsInit_cw (e : CmdError) : (s.raiseRsInit e).cw = s.cw := rfl
@[simp] theorem raiseRsInit_plan (e : CmdError) : (s.raiseRsInit e).plan = s.plan := rfl
@[simp] theorem raiseRsInit_alphaTo (e : CmdError) : (s.raiseRsInit e).alphaTo = Buffer.unspecified (s.draws + 1) := rfl
@[simp] theorem raiseRsInit_indexOf (e : CmdError) : (s.raiseRsInit e).indexOf = Buffer.unspecified (s.draws + 1) := rfl
@[simp] theorem raiseRsInit_genpoly (e : CmdError) : (s.raiseRsInit e).genpoly = Buffer.unspecified (s.draws + 1) := rfl
@[simp] theorem raiseRsInit_mat (e : CmdError) : (s.raiseRsInit e).mat = s.mat := rfl
@[simp] theorem raiseRsInit_latch (e : CmdError) : (s.raiseRsInit e).latch = none := rfl
@[simp] theorem raiseRsInit_rst (e : CmdError) : (s.raiseRsInit e).rst = s.rst := rfl
@[simp] theorem raiseRsInit_draws (e : CmdError) : (s.raiseRsInit e).draws = s.draws + 1 + 1 := rfl
@[simp] theorem raiseRsInit_pending (e : CmdError) : (s.raiseRsInit e).pending = s.pending := rfl
@[simp] theorem raiseRsInit_responses (e : CmdError) : (s.raiseRsInit e).responses = s.responses := rfl

/-! ### `resetRegisters` -/

@[simp] theorem resetRegisters_ctrl : (s.resetRegisters).ctrl = ⟨false, false⟩ := rfl
@[simp] theorem resetRegisters_done : (s.resetRegisters).done = false := rfl
@[simp] theorem resetRegisters_err : (s.resetRegisters).err = false := rfl
@[simp] theorem resetRegisters_cmdReject : (s.resetRegisters).cmdReject = false := rfl
@[simp] theorem resetRegisters_busViol : (s.resetRegisters).busViol = false := rfl
@[simp] theorem resetRegisters_rsReady : (s.resetRegisters).rsReady = false := rfl
@[simp] theorem resetRegisters_pipeSym : (s.resetRegisters).pipeSym = .noSym := rfl
@[simp] theorem resetRegisters_pipeStage : (s.resetRegisters).pipeStage = .noStage := rfl
@[simp] theorem resetRegisters_errCode : (s.resetRegisters).errCode = 0 := rfl
@[simp] theorem resetRegisters_errDetail : (s.resetRegisters).errDetail = 0 := rfl
@[simp] theorem resetRegisters_errIndex : (s.resetRegisters).errIndex = noIndex := rfl
@[simp] theorem resetRegisters_cfg : (s.resetRegisters).cfg = CfgRegs.reset := rfl
@[simp] theorem resetRegisters_rs : (s.resetRegisters).rs = RsRegs.reset := rfl
@[simp] theorem resetRegisters_act : (s.resetRegisters).act = RsActive.reset := rfl
@[simp] theorem resetRegisters_outW : (s.resetRegisters).outW = 0 := rfl
@[simp] theorem resetRegisters_outH : (s.resetRegisters).outH = 0 := rfl
@[simp] theorem resetRegisters_res : (s.resetRegisters).res = ResultRegs.reset := rfl
@[simp] theorem resetRegisters_inBuf : (s.resetRegisters).inBuf = s.inBuf := rfl
@[simp] theorem resetRegisters_cw : (s.resetRegisters).cw = s.cw := rfl
@[simp] theorem resetRegisters_plan : (s.resetRegisters).plan = s.plan := rfl
@[simp] theorem resetRegisters_alphaTo : (s.resetRegisters).alphaTo = s.alphaTo := rfl
@[simp] theorem resetRegisters_indexOf : (s.resetRegisters).indexOf = s.indexOf := rfl
@[simp] theorem resetRegisters_genpoly : (s.resetRegisters).genpoly = s.genpoly := rfl
@[simp] theorem resetRegisters_mat : (s.resetRegisters).mat = s.mat := rfl
@[simp] theorem resetRegisters_latch : (s.resetRegisters).latch = s.latch := rfl
@[simp] theorem resetRegisters_rst : (s.resetRegisters).rst = s.rst := rfl
@[simp] theorem resetRegisters_draws : (s.resetRegisters).draws = s.draws := rfl
@[simp] theorem resetRegisters_pending : (s.resetRegisters).pending = s.pending := rfl
@[simp] theorem resetRegisters_responses : (s.resetRegisters).responses = s.responses := rfl

/-! ### `hardReset` -/

@[simp] theorem hardReset_ctrl : (s.hardReset).ctrl = ⟨false, false⟩ := rfl
@[simp] theorem hardReset_done : (s.hardReset).done = false := rfl
@[simp] theorem hardReset_err : (s.hardReset).err = false := rfl
@[simp] theorem hardReset_cmdReject : (s.hardReset).cmdReject = false := rfl
@[simp] theorem hardReset_busViol : (s.hardReset).busViol = false := rfl
@[simp] theorem hardReset_rsReady : (s.hardReset).rsReady = false := rfl
@[simp] theorem hardReset_pipeSym : (s.hardReset).pipeSym = .noSym := rfl
@[simp] theorem hardReset_pipeStage : (s.hardReset).pipeStage = .noStage := rfl
@[simp] theorem hardReset_errCode : (s.hardReset).errCode = 0 := rfl
@[simp] theorem hardReset_errDetail : (s.hardReset).errDetail = 0 := rfl
@[simp] theorem hardReset_errIndex : (s.hardReset).errIndex = noIndex := rfl
@[simp] theorem hardReset_cfg : (s.hardReset).cfg = CfgRegs.reset := rfl
@[simp] theorem hardReset_rs : (s.hardReset).rs = RsRegs.reset := rfl
@[simp] theorem hardReset_act : (s.hardReset).act = RsActive.reset := rfl
@[simp] theorem hardReset_outW : (s.hardReset).outW = 0 := rfl
@[simp] theorem hardReset_outH : (s.hardReset).outH = 0 := rfl
@[simp] theorem hardReset_res : (s.hardReset).res = ResultRegs.reset := rfl
@[simp] theorem hardReset_inBuf : (s.hardReset).inBuf = Buffer.unspecified s.draws := rfl
@[simp] theorem hardReset_cw : (s.hardReset).cw = Buffer.unspecified s.draws := rfl
@[simp] theorem hardReset_plan : (s.hardReset).plan = Buffer.unspecified s.draws := rfl
@[simp] theorem hardReset_alphaTo : (s.hardReset).alphaTo = Buffer.unspecified s.draws := rfl
@[simp] theorem hardReset_indexOf : (s.hardReset).indexOf = Buffer.unspecified s.draws := rfl
@[simp] theorem hardReset_genpoly : (s.hardReset).genpoly = Buffer.unspecified s.draws := rfl
@[simp] theorem hardReset_mat : (s.hardReset).mat = Buffer.unspecified s.draws := rfl
@[simp] theorem hardReset_latch : (s.hardReset).latch = none := rfl
@[simp] theorem hardReset_rst : (s.hardReset).rst = false := rfl
@[simp] theorem hardReset_draws : (s.hardReset).draws = s.draws + 1 := rfl
@[simp] theorem hardReset_pending : (s.hardReset).pending = s.pending := rfl
@[simp] theorem hardReset_responses : (s.hardReset).responses = s.responses := rfl

/-! ### `writeStatus` -/

@[simp] theorem writeStatus_ctrl (d : Word) : (s.writeStatus d).ctrl = s.ctrl := rfl
@[simp] theorem writeStatus_done (d : Word) : (s.writeStatus d).done = (s.done && !d.getLsbD 1) := rfl
@[simp] theorem writeStatus_err (d : Word) : (s.writeStatus d).err = (s.err && !d.getLsbD 2) := rfl
@[simp] theorem writeStatus_cmdReject (d : Word) : (s.writeStatus d).cmdReject = (s.cmdReject && !d.getLsbD 3) := rfl
@[simp] theorem writeStatus_busViol (d : Word) : (s.writeStatus d).busViol = (s.busViol && !d.getLsbD 4) := rfl
@[simp] theorem writeStatus_rsReady (d : Word) : (s.writeStatus d).rsReady = s.rsReady := rfl
@[simp] theorem writeStatus_pipeSym (d : Word) : (s.writeStatus d).pipeSym = s.pipeSym := rfl
@[simp] theorem writeStatus_pipeStage (d : Word) : (s.writeStatus d).pipeStage = s.pipeStage := rfl
@[simp] theorem writeStatus_errCode (d : Word) : (s.writeStatus d).errCode = s.errCode := rfl
@[simp] theorem writeStatus_errDetail (d : Word) : (s.writeStatus d).errDetail = s.errDetail := rfl
@[simp] theorem writeStatus_errIndex (d : Word) : (s.writeStatus d).errIndex = s.errIndex := rfl
@[simp] theorem writeStatus_cfg (d : Word) : (s.writeStatus d).cfg = s.cfg := rfl
@[simp] theorem writeStatus_rs (d : Word) : (s.writeStatus d).rs = s.rs := rfl
@[simp] theorem writeStatus_act (d : Word) : (s.writeStatus d).act = s.act := rfl
@[simp] theorem writeStatus_outW (d : Word) : (s.writeStatus d).outW = s.outW := rfl
@[simp] theorem writeStatus_outH (d : Word) : (s.writeStatus d).outH = s.outH := rfl
@[simp] theorem writeStatus_res (d : Word) : (s.writeStatus d).res = s.res := rfl
@[simp] theorem writeStatus_inBuf (d : Word) : (s.writeStatus d).inBuf = s.inBuf := rfl
@[simp] theorem writeStatus_cw (d : Word) : (s.writeStatus d).cw = s.cw := rfl
@[simp] theorem writeStatus_plan (d : Word) : (s.writeStatus d).plan = s.plan := rfl
@[simp] theorem writeStatus_alphaTo (d : Word) : (s.writeStatus d).alphaTo = s.alphaTo := rfl
@[simp] theorem writeStatus_indexOf (d : Word) : (s.writeStatus d).indexOf = s.indexOf := rfl
@[simp] theorem writeStatus_genpoly (d : Word) : (s.writeStatus d).genpoly = s.genpoly := rfl
@[simp] theorem writeStatus_mat (d : Word) : (s.writeStatus d).mat = s.mat := rfl
@[simp] theorem writeStatus_latch (d : Word) : (s.writeStatus d).latch = s.latch := rfl
@[simp] theorem writeStatus_rst (d : Word) : (s.writeStatus d).rst = s.rst := rfl
@[simp] theorem writeStatus_draws (d : Word) : (s.writeStatus d).draws = s.draws := rfl
@[simp] theorem writeStatus_pending (d : Word) : (s.writeStatus d).pending = s.pending := rfl
@[simp] theorem writeStatus_responses (d : Word) : (s.writeStatus d).responses = s.responses := rfl

/-! ### `violate` -/

@[simp] theorem violate_ctrl : (s.violate).ctrl = s.ctrl := rfl
@[simp] theorem violate_done : (s.violate).done = s.done := rfl
@[simp] theorem violate_err : (s.violate).err = s.err := rfl
@[simp] theorem violate_cmdReject : (s.violate).cmdReject = s.cmdReject := rfl
@[simp] theorem violate_busViol : (s.violate).busViol = true := rfl
@[simp] theorem violate_rsReady : (s.violate).rsReady = s.rsReady := rfl
@[simp] theorem violate_pipeSym : (s.violate).pipeSym = s.pipeSym := rfl
@[simp] theorem violate_pipeStage : (s.violate).pipeStage = s.pipeStage := rfl
@[simp] theorem violate_errCode : (s.violate).errCode = s.errCode := rfl
@[simp] theorem violate_errDetail : (s.violate).errDetail = s.errDetail := rfl
@[simp] theorem violate_errIndex : (s.violate).errIndex = s.errIndex := rfl
@[simp] theorem violate_cfg : (s.violate).cfg = s.cfg := rfl
@[simp] theorem violate_rs : (s.violate).rs = s.rs := rfl
@[simp] theorem violate_act : (s.violate).act = s.act := rfl
@[simp] theorem violate_outW : (s.violate).outW = s.outW := rfl
@[simp] theorem violate_outH : (s.violate).outH = s.outH := rfl
@[simp] theorem violate_res : (s.violate).res = s.res := rfl
@[simp] theorem violate_inBuf : (s.violate).inBuf = s.inBuf := rfl
@[simp] theorem violate_cw : (s.violate).cw = s.cw := rfl
@[simp] theorem violate_plan : (s.violate).plan = s.plan := rfl
@[simp] theorem violate_alphaTo : (s.violate).alphaTo = s.alphaTo := rfl
@[simp] theorem violate_indexOf : (s.violate).indexOf = s.indexOf := rfl
@[simp] theorem violate_genpoly : (s.violate).genpoly = s.genpoly := rfl
@[simp] theorem violate_mat : (s.violate).mat = s.mat := rfl
@[simp] theorem violate_latch : (s.violate).latch = s.latch := rfl
@[simp] theorem violate_rst : (s.violate).rst = s.rst := rfl
@[simp] theorem violate_draws : (s.violate).draws = s.draws := rfl
@[simp] theorem violate_pending : (s.violate).pending = s.pending := rfl
@[simp] theorem violate_responses : (s.violate).responses = s.responses := rfl

/-! ### `rejectCommand` -/

@[simp] theorem rejectCommand_ctrl : (s.rejectCommand).ctrl = s.ctrl := rfl
@[simp] theorem rejectCommand_done : (s.rejectCommand).done = s.done := rfl
@[simp] theorem rejectCommand_err : (s.rejectCommand).err = s.err := rfl
@[simp] theorem rejectCommand_cmdReject : (s.rejectCommand).cmdReject = true := rfl
@[simp] theorem rejectCommand_busViol : (s.rejectCommand).busViol = s.busViol := rfl
@[simp] theorem rejectCommand_rsReady : (s.rejectCommand).rsReady = s.rsReady := rfl
@[simp] theorem rejectCommand_pipeSym : (s.rejectCommand).pipeSym = s.pipeSym := rfl
@[simp] theorem rejectCommand_pipeStage : (s.rejectCommand).pipeStage = s.pipeStage := rfl
@[simp] theorem rejectCommand_errCode : (s.rejectCommand).errCode = s.errCode := rfl
@[simp] theorem rejectCommand_errDetail : (s.rejectCommand).errDetail = s.errDetail := rfl
@[simp] theorem rejectCommand_errIndex : (s.rejectCommand).errIndex = s.errIndex := rfl
@[simp] theorem rejectCommand_cfg : (s.rejectCommand).cfg = s.cfg := rfl
@[simp] theorem rejectCommand_rs : (s.rejectCommand).rs = s.rs := rfl
@[simp] theorem rejectCommand_act : (s.rejectCommand).act = s.act := rfl
@[simp] theorem rejectCommand_outW : (s.rejectCommand).outW = s.outW := rfl
@[simp] theorem rejectCommand_outH : (s.rejectCommand).outH = s.outH := rfl
@[simp] theorem rejectCommand_res : (s.rejectCommand).res = s.res := rfl
@[simp] theorem rejectCommand_inBuf : (s.rejectCommand).inBuf = s.inBuf := rfl
@[simp] theorem rejectCommand_cw : (s.rejectCommand).cw = s.cw := rfl
@[simp] theorem rejectCommand_plan : (s.rejectCommand).plan = s.plan := rfl
@[simp] theorem rejectCommand_alphaTo : (s.rejectCommand).alphaTo = s.alphaTo := rfl
@[simp] theorem rejectCommand_indexOf : (s.rejectCommand).indexOf = s.indexOf := rfl
@[simp] theorem rejectCommand_genpoly : (s.rejectCommand).genpoly = s.genpoly := rfl
@[simp] theorem rejectCommand_mat : (s.rejectCommand).mat = s.mat := rfl
@[simp] theorem rejectCommand_latch : (s.rejectCommand).latch = s.latch := rfl
@[simp] theorem rejectCommand_rst : (s.rejectCommand).rst = s.rst := rfl
@[simp] theorem rejectCommand_draws : (s.rejectCommand).draws = s.draws := rfl
@[simp] theorem rejectCommand_pending : (s.rejectCommand).pending = s.pending := rfl
@[simp] theorem rejectCommand_responses : (s.rejectCommand).responses = s.responses := rfl

/-! ### `clearPipe` -/

@[simp] theorem clearPipe_ctrl : (s.clearPipe).ctrl = s.ctrl := rfl
@[simp] theorem clearPipe_done : (s.clearPipe).done = s.done := rfl
@[simp] theorem clearPipe_err : (s.clearPipe).err = s.err := rfl
@[simp] theorem clearPipe_cmdReject : (s.clearPipe).cmdReject = s.cmdReject := rfl
@[simp] theorem clearPipe_busViol : (s.clearPipe).busViol = s.busViol := rfl
@[simp] theorem clearPipe_rsReady : (s.clearPipe).rsReady = s.rsReady := rfl
@[simp] theorem clearPipe_pipeSym : (s.clearPipe).pipeSym = .noSym := rfl
@[simp] theorem clearPipe_pipeStage : (s.clearPipe).pipeStage = .noStage := rfl
@[simp] theorem clearPipe_errCode : (s.clearPipe).errCode = s.errCode := rfl
@[simp] theorem clearPipe_errDetail : (s.clearPipe).errDetail = s.errDetail := rfl
@[simp] theorem clearPipe_errIndex : (s.clearPipe).errIndex = s.errIndex := rfl
@[simp] theorem clearPipe_cfg : (s.clearPipe).cfg = s.cfg := rfl
@[simp] theorem clearPipe_rs : (s.clearPipe).rs = s.rs := rfl
@[simp] theorem clearPipe_act : (s.clearPipe).act = s.act := rfl
@[simp] theorem clearPipe_outW : (s.clearPipe).outW = s.outW := rfl
@[simp] theorem clearPipe_outH : (s.clearPipe).outH = s.outH := rfl
@[simp] theorem clearPipe_res : (s.clearPipe).res = s.res := rfl
@[simp] theorem clearPipe_inBuf : (s.clearPipe).inBuf = s.inBuf := rfl
@[simp] theorem clearPipe_cw : (s.clearPipe).cw = s.cw := rfl
@[simp] theorem clearPipe_plan : (s.clearPipe).plan = s.plan := rfl
@[simp] theorem clearPipe_alphaTo : (s.clearPipe).alphaTo = s.alphaTo := rfl
@[simp] theorem clearPipe_indexOf : (s.clearPipe).indexOf = s.indexOf := rfl
@[simp] theorem clearPipe_genpoly : (s.clearPipe).genpoly = s.genpoly := rfl
@[simp] theorem clearPipe_mat : (s.clearPipe).mat = s.mat := rfl
@[simp] theorem clearPipe_latch : (s.clearPipe).latch = s.latch := rfl
@[simp] theorem clearPipe_rst : (s.clearPipe).rst = s.rst := rfl
@[simp] theorem clearPipe_draws : (s.clearPipe).draws = s.draws := rfl
@[simp] theorem clearPipe_pending : (s.clearPipe).pending = s.pending := rfl
@[simp] theorem clearPipe_responses : (s.clearPipe).responses = s.responses := rfl

/-! ### `setPipe` -/

@[simp] theorem setPipe_ctrl (sym : PipeSym) (st : PipeStage) : (s.setPipe sym st).ctrl = s.ctrl := rfl
@[simp] theorem setPipe_done (sym : PipeSym) (st : PipeStage) : (s.setPipe sym st).done = s.done := rfl
@[simp] theorem setPipe_err (sym : PipeSym) (st : PipeStage) : (s.setPipe sym st).err = s.err := rfl
@[simp] theorem setPipe_cmdReject (sym : PipeSym) (st : PipeStage) : (s.setPipe sym st).cmdReject = s.cmdReject := rfl
@[simp] theorem setPipe_busViol (sym : PipeSym) (st : PipeStage) : (s.setPipe sym st).busViol = s.busViol := rfl
@[simp] theorem setPipe_rsReady (sym : PipeSym) (st : PipeStage) : (s.setPipe sym st).rsReady = s.rsReady := rfl
@[simp] theorem setPipe_pipeSym (sym : PipeSym) (st : PipeStage) : (s.setPipe sym st).pipeSym = sym := rfl
@[simp] theorem setPipe_pipeStage (sym : PipeSym) (st : PipeStage) : (s.setPipe sym st).pipeStage = st := rfl
@[simp] theorem setPipe_errCode (sym : PipeSym) (st : PipeStage) : (s.setPipe sym st).errCode = s.errCode := rfl
@[simp] theorem setPipe_errDetail (sym : PipeSym) (st : PipeStage) : (s.setPipe sym st).errDetail = s.errDetail := rfl
@[simp] theorem setPipe_errIndex (sym : PipeSym) (st : PipeStage) : (s.setPipe sym st).errIndex = s.errIndex := rfl
@[simp] theorem setPipe_cfg (sym : PipeSym) (st : PipeStage) : (s.setPipe sym st).cfg = s.cfg := rfl
@[simp] theorem setPipe_rs (sym : PipeSym) (st : PipeStage) : (s.setPipe sym st).rs = s.rs := rfl
@[simp] theorem setPipe_act (sym : PipeSym) (st : PipeStage) : (s.setPipe sym st).act = s.act := rfl
@[simp] theorem setPipe_outW (sym : PipeSym) (st : PipeStage) : (s.setPipe sym st).outW = s.outW := rfl
@[simp] theorem setPipe_outH (sym : PipeSym) (st : PipeStage) : (s.setPipe sym st).outH = s.outH := rfl
@[simp] theorem setPipe_res (sym : PipeSym) (st : PipeStage) : (s.setPipe sym st).res = s.res := rfl
@[simp] theorem setPipe_inBuf (sym : PipeSym) (st : PipeStage) : (s.setPipe sym st).inBuf = s.inBuf := rfl
@[simp] theorem setPipe_cw (sym : PipeSym) (st : PipeStage) : (s.setPipe sym st).cw = s.cw := rfl
@[simp] theorem setPipe_plan (sym : PipeSym) (st : PipeStage) : (s.setPipe sym st).plan = s.plan := rfl
@[simp] theorem setPipe_alphaTo (sym : PipeSym) (st : PipeStage) : (s.setPipe sym st).alphaTo = s.alphaTo := rfl
@[simp] theorem setPipe_indexOf (sym : PipeSym) (st : PipeStage) : (s.setPipe sym st).indexOf = s.indexOf := rfl
@[simp] theorem setPipe_genpoly (sym : PipeSym) (st : PipeStage) : (s.setPipe sym st).genpoly = s.genpoly := rfl
@[simp] theorem setPipe_mat (sym : PipeSym) (st : PipeStage) : (s.setPipe sym st).mat = s.mat := rfl
@[simp] theorem setPipe_latch (sym : PipeSym) (st : PipeStage) : (s.setPipe sym st).latch = s.latch := rfl
@[simp] theorem setPipe_rst (sym : PipeSym) (st : PipeStage) : (s.setPipe sym st).rst = s.rst := rfl
@[simp] theorem setPipe_draws (sym : PipeSym) (st : PipeStage) : (s.setPipe sym st).draws = s.draws := rfl
@[simp] theorem setPipe_pending (sym : PipeSym) (st : PipeStage) : (s.setPipe sym st).pending = s.pending := rfl
@[simp] theorem setPipe_responses (sym : PipeSym) (st : PipeStage) : (s.setPipe sym st).responses = s.responses := rfl

/-! ### `writeRs` -/

@[simp] theorem writeRs_ctrl (r : RsRegs) : (s.writeRs r).ctrl = s.ctrl := rfl
@[simp] theorem writeRs_done (r : RsRegs) : (s.writeRs r).done = s.done := rfl
@[simp] theorem writeRs_err (r : RsRegs) : (s.writeRs r).err = s.err := rfl
@[simp] theorem writeRs_cmdReject (r : RsRegs) : (s.writeRs r).cmdReject = s.cmdReject := rfl
@[simp] theorem writeRs_busViol (r : RsRegs) : (s.writeRs r).busViol = s.busViol := rfl
@[simp] theorem writeRs_rsReady (r : RsRegs) : (s.writeRs r).rsReady = s.rsReady := rfl
@[simp] theorem writeRs_pipeSym (r : RsRegs) : (s.writeRs r).pipeSym = s.pipeSym := rfl
@[simp] theorem writeRs_pipeStage (r : RsRegs) : (s.writeRs r).pipeStage = s.pipeStage := rfl
@[simp] theorem writeRs_errCode (r : RsRegs) : (s.writeRs r).errCode = s.errCode := rfl
@[simp] theorem writeRs_errDetail (r : RsRegs) : (s.writeRs r).errDetail = s.errDetail := rfl
@[simp] theorem writeRs_errIndex (r : RsRegs) : (s.writeRs r).errIndex = s.errIndex := rfl
@[simp] theorem writeRs_cfg (r : RsRegs) : (s.writeRs r).cfg = s.cfg := rfl
@[simp] theorem writeRs_rs (r : RsRegs) : (s.writeRs r).rs = r := rfl
@[simp] theorem writeRs_act (r : RsRegs) : (s.writeRs r).act = s.act := rfl
@[simp] theorem writeRs_outW (r : RsRegs) : (s.writeRs r).outW = s.outW := rfl
@[simp] theorem writeRs_outH (r : RsRegs) : (s.writeRs r).outH = s.outH := rfl
@[simp] theorem writeRs_res (r : RsRegs) : (s.writeRs r).res = s.res := rfl
@[simp] theorem writeRs_inBuf (r : RsRegs) : (s.writeRs r).inBuf = s.inBuf := rfl
@[simp] theorem writeRs_cw (r : RsRegs) : (s.writeRs r).cw = s.cw := rfl
@[simp] theorem writeRs_plan (r : RsRegs) : (s.writeRs r).plan = s.plan := rfl
@[simp] theorem writeRs_alphaTo (r : RsRegs) : (s.writeRs r).alphaTo = s.alphaTo := rfl
@[simp] theorem writeRs_indexOf (r : RsRegs) : (s.writeRs r).indexOf = s.indexOf := rfl
@[simp] theorem writeRs_genpoly (r : RsRegs) : (s.writeRs r).genpoly = s.genpoly := rfl
@[simp] theorem writeRs_mat (r : RsRegs) : (s.writeRs r).mat = s.mat := rfl
@[simp] theorem writeRs_latch (r : RsRegs) : (s.writeRs r).latch = s.latch := rfl
@[simp] theorem writeRs_rst (r : RsRegs) : (s.writeRs r).rst = s.rst := rfl
@[simp] theorem writeRs_draws (r : RsRegs) : (s.writeRs r).draws = s.draws := rfl
@[simp] theorem writeRs_pending (r : RsRegs) : (s.writeRs r).pending = s.pending := rfl
@[simp] theorem writeRs_responses (r : RsRegs) : (s.writeRs r).responses = s.responses := rfl

/-! ### `writeCfg` -/

@[simp] theorem writeCfg_ctrl (c : CfgRegs) : (s.writeCfg c).ctrl = s.ctrl := rfl
@[simp] theorem writeCfg_done (c : CfgRegs) : (s.writeCfg c).done = s.done := rfl
@[simp] theorem writeCfg_err (c : CfgRegs) : (s.writeCfg c).err = s.err := rfl
@[simp] theorem writeCfg_cmdReject (c : CfgRegs) : (s.writeCfg c).cmdReject = s.cmdReject := rfl
@[simp] theorem writeCfg_busViol (c : CfgRegs) : (s.writeCfg c).busViol = s.busViol := rfl
@[simp] theorem writeCfg_rsReady (c : CfgRegs) : (s.writeCfg c).rsReady = s.rsReady := rfl
@[simp] theorem writeCfg_pipeSym (c : CfgRegs) : (s.writeCfg c).pipeSym = .noSym := rfl
@[simp] theorem writeCfg_pipeStage (c : CfgRegs) : (s.writeCfg c).pipeStage = .noStage := rfl
@[simp] theorem writeCfg_errCode (c : CfgRegs) : (s.writeCfg c).errCode = s.errCode := rfl
@[simp] theorem writeCfg_errDetail (c : CfgRegs) : (s.writeCfg c).errDetail = s.errDetail := rfl
@[simp] theorem writeCfg_errIndex (c : CfgRegs) : (s.writeCfg c).errIndex = s.errIndex := rfl
@[simp] theorem writeCfg_cfg (c : CfgRegs) : (s.writeCfg c).cfg = c := rfl
@[simp] theorem writeCfg_rs (c : CfgRegs) : (s.writeCfg c).rs = s.rs := rfl
@[simp] theorem writeCfg_act (c : CfgRegs) : (s.writeCfg c).act = s.act := rfl
@[simp] theorem writeCfg_outW (c : CfgRegs) : (s.writeCfg c).outW = s.outW := rfl
@[simp] theorem writeCfg_outH (c : CfgRegs) : (s.writeCfg c).outH = s.outH := rfl
@[simp] theorem writeCfg_res (c : CfgRegs) : (s.writeCfg c).res = s.res := rfl
@[simp] theorem writeCfg_inBuf (c : CfgRegs) : (s.writeCfg c).inBuf = s.inBuf := rfl
@[simp] theorem writeCfg_cw (c : CfgRegs) : (s.writeCfg c).cw = s.cw := rfl
@[simp] theorem writeCfg_plan (c : CfgRegs) : (s.writeCfg c).plan = s.plan := rfl
@[simp] theorem writeCfg_alphaTo (c : CfgRegs) : (s.writeCfg c).alphaTo = s.alphaTo := rfl
@[simp] theorem writeCfg_indexOf (c : CfgRegs) : (s.writeCfg c).indexOf = s.indexOf := rfl
@[simp] theorem writeCfg_genpoly (c : CfgRegs) : (s.writeCfg c).genpoly = s.genpoly := rfl
@[simp] theorem writeCfg_mat (c : CfgRegs) : (s.writeCfg c).mat = s.mat := rfl
@[simp] theorem writeCfg_latch (c : CfgRegs) : (s.writeCfg c).latch = s.latch := rfl
@[simp] theorem writeCfg_rst (c : CfgRegs) : (s.writeCfg c).rst = s.rst := rfl
@[simp] theorem writeCfg_draws (c : CfgRegs) : (s.writeCfg c).draws = s.draws := rfl
@[simp] theorem writeCfg_pending (c : CfgRegs) : (s.writeCfg c).pending = s.pending := rfl
@[simp] theorem writeCfg_responses (c : CfgRegs) : (s.writeCfg c).responses = s.responses := rfl

/-! ### `loadTables` -/

@[simp] theorem loadTables_ctrl (al ix g : List Nat) : (s.loadTables al ix g).ctrl = s.ctrl := rfl
@[simp] theorem loadTables_done (al ix g : List Nat) : (s.loadTables al ix g).done = s.done := rfl
@[simp] theorem loadTables_err (al ix g : List Nat) : (s.loadTables al ix g).err = s.err := rfl
@[simp] theorem loadTables_cmdReject (al ix g : List Nat) : (s.loadTables al ix g).cmdReject = s.cmdReject := rfl
@[simp] theorem loadTables_busViol (al ix g : List Nat) : (s.loadTables al ix g).busViol = s.busViol := rfl
@[simp] theorem loadTables_rsReady (al ix g : List Nat) : (s.loadTables al ix g).rsReady = true := rfl
@[simp] theorem loadTables_pipeSym (al ix g : List Nat) : (s.loadTables al ix g).pipeSym = s.pipeSym := rfl
@[simp] theorem loadTables_pipeStage (al ix g : List Nat) : (s.loadTables al ix g).pipeStage = s.pipeStage := rfl
@[simp] theorem loadTables_errCode (al ix g : List Nat) : (s.loadTables al ix g).errCode = s.errCode := rfl
@[simp] theorem loadTables_errDetail (al ix g : List Nat) : (s.loadTables al ix g).errDetail = s.errDetail := rfl
@[simp] theorem loadTables_errIndex (al ix g : List Nat) : (s.loadTables al ix g).errIndex = s.errIndex := rfl
@[simp] theorem loadTables_cfg (al ix g : List Nat) : (s.loadTables al ix g).cfg = s.cfg := rfl
@[simp] theorem loadTables_rs (al ix g : List Nat) : (s.loadTables al ix g).rs = s.rs := rfl
@[simp] theorem loadTables_act (al ix g : List Nat) : (s.loadTables al ix g).act = s.rs.active := rfl
@[simp] theorem loadTables_outW (al ix g : List Nat) : (s.loadTables al ix g).outW = s.outW := rfl
@[simp] theorem loadTables_outH (al ix g : List Nat) : (s.loadTables al ix g).outH = s.outH := rfl
@[simp] theorem loadTables_res (al ix g : List Nat) : (s.loadTables al ix g).res = s.res := rfl
@[simp] theorem loadTables_inBuf (al ix g : List Nat) : (s.loadTables al ix g).inBuf = s.inBuf := rfl
@[simp] theorem loadTables_cw (al ix g : List Nat) : (s.loadTables al ix g).cw = s.cw := rfl
@[simp] theorem loadTables_plan (al ix g : List Nat) : (s.loadTables al ix g).plan = s.plan := rfl
@[simp] theorem loadTables_alphaTo (al ix g : List Nat) : (s.loadTables al ix g).alphaTo = Buffer.cleared.writeNats 0 al := rfl
@[simp] theorem loadTables_indexOf (al ix g : List Nat) : (s.loadTables al ix g).indexOf = Buffer.cleared.writeNats 0 ix := rfl
@[simp] theorem loadTables_genpoly (al ix g : List Nat) : (s.loadTables al ix g).genpoly = Buffer.cleared.writeNats 0 g := rfl
@[simp] theorem loadTables_mat (al ix g : List Nat) : (s.loadTables al ix g).mat = s.mat := rfl
@[simp] theorem loadTables_latch (al ix g : List Nat) : (s.loadTables al ix g).latch = s.latch := rfl
@[simp] theorem loadTables_rst (al ix g : List Nat) : (s.loadTables al ix g).rst = s.rst := rfl
@[simp] theorem loadTables_draws (al ix g : List Nat) : (s.loadTables al ix g).draws = s.draws := rfl
@[simp] theorem loadTables_pending (al ix g : List Nat) : (s.loadTables al ix g).pending = s.pending := rfl
@[simp] theorem loadTables_responses (al ix g : List Nat) : (s.loadTables al ix g).responses = s.responses := rfl

/-! ### `storePlan` -/

@[simp] theorem storePlan_ctrl (ks : List Nat) : (s.storePlan ks).ctrl = s.ctrl := rfl
@[simp] theorem storePlan_done (ks : List Nat) : (s.storePlan ks).done = s.done := rfl
@[simp] theorem storePlan_err (ks : List Nat) : (s.storePlan ks).err = s.err := rfl
@[simp] theorem storePlan_cmdReject (ks : List Nat) : (s.storePlan ks).cmdReject = s.cmdReject := rfl
@[simp] theorem storePlan_busViol (ks : List Nat) : (s.storePlan ks).busViol = s.busViol := rfl
@[simp] theorem storePlan_rsReady (ks : List Nat) : (s.storePlan ks).rsReady = s.rsReady := rfl
@[simp] theorem storePlan_pipeSym (ks : List Nat) : (s.storePlan ks).pipeSym = s.pipeSym := rfl
@[simp] theorem storePlan_pipeStage (ks : List Nat) : (s.storePlan ks).pipeStage = s.pipeStage := rfl
@[simp] theorem storePlan_errCode (ks : List Nat) : (s.storePlan ks).errCode = s.errCode := rfl
@[simp] theorem storePlan_errDetail (ks : List Nat) : (s.storePlan ks).errDetail = s.errDetail := rfl
@[simp] theorem storePlan_errIndex (ks : List Nat) : (s.storePlan ks).errIndex = s.errIndex := rfl
@[simp] theorem storePlan_cfg (ks : List Nat) : (s.storePlan ks).cfg = s.cfg := rfl
@[simp] theorem storePlan_rs (ks : List Nat) : (s.storePlan ks).rs = s.rs := rfl
@[simp] theorem storePlan_act (ks : List Nat) : (s.storePlan ks).act = s.act := rfl
@[simp] theorem storePlan_outW (ks : List Nat) : (s.storePlan ks).outW = s.outW := rfl
@[simp] theorem storePlan_outH (ks : List Nat) : (s.storePlan ks).outH = s.outH := rfl
@[simp] theorem storePlan_res (ks : List Nat) : (s.storePlan ks).res = { s.res with planLen := BitVec.ofNat 13 (ks.length + 1) } := rfl
@[simp] theorem storePlan_inBuf (ks : List Nat) : (s.storePlan ks).inBuf = s.inBuf := rfl
@[simp] theorem storePlan_cw (ks : List Nat) : (s.storePlan ks).cw = s.cw := rfl
@[simp] theorem storePlan_plan (ks : List Nat) : (s.storePlan ks).plan = s.plan.writeNats 0 (ks ++ [planSentinel]) := rfl
@[simp] theorem storePlan_alphaTo (ks : List Nat) : (s.storePlan ks).alphaTo = s.alphaTo := rfl
@[simp] theorem storePlan_indexOf (ks : List Nat) : (s.storePlan ks).indexOf = s.indexOf := rfl
@[simp] theorem storePlan_genpoly (ks : List Nat) : (s.storePlan ks).genpoly = s.genpoly := rfl
@[simp] theorem storePlan_mat (ks : List Nat) : (s.storePlan ks).mat = s.mat := rfl
@[simp] theorem storePlan_latch (ks : List Nat) : (s.storePlan ks).latch = s.latch := rfl
@[simp] theorem storePlan_rst (ks : List Nat) : (s.storePlan ks).rst = s.rst := rfl
@[simp] theorem storePlan_draws (ks : List Nat) : (s.storePlan ks).draws = s.draws := rfl
@[simp] theorem storePlan_pending (ks : List Nat) : (s.storePlan ks).pending = s.pending := rfl
@[simp] theorem storePlan_responses (ks : List Nat) : (s.storePlan ks).responses = s.responses := rfl

/-! ### `produced` -/

@[simp] theorem produced_ctrl (cws : List Nat) (m t z l k : Nat) : (s.produced cws m t z l k).ctrl = s.ctrl := rfl
@[simp] theorem produced_done (cws : List Nat) (m t z l k : Nat) : (s.produced cws m t z l k).done = s.done := rfl
@[simp] theorem produced_err (cws : List Nat) (m t z l k : Nat) : (s.produced cws m t z l k).err = s.err := rfl
@[simp] theorem produced_cmdReject (cws : List Nat) (m t z l k : Nat) : (s.produced cws m t z l k).cmdReject = s.cmdReject := rfl
@[simp] theorem produced_busViol (cws : List Nat) (m t z l k : Nat) : (s.produced cws m t z l k).busViol = s.busViol := rfl
@[simp] theorem produced_rsReady (cws : List Nat) (m t z l k : Nat) : (s.produced cws m t z l k).rsReady = s.rsReady := rfl
@[simp] theorem produced_pipeSym (cws : List Nat) (m t z l k : Nat) : (s.produced cws m t z l k).pipeSym = s.pipeSym := rfl
@[simp] theorem produced_pipeStage (cws : List Nat) (m t z l k : Nat) : (s.produced cws m t z l k).pipeStage = s.pipeStage := rfl
@[simp] theorem produced_errCode (cws : List Nat) (m t z l k : Nat) : (s.produced cws m t z l k).errCode = s.errCode := rfl
@[simp] theorem produced_errDetail (cws : List Nat) (m t z l k : Nat) : (s.produced cws m t z l k).errDetail = s.errDetail := rfl
@[simp] theorem produced_errIndex (cws : List Nat) (m t z l k : Nat) : (s.produced cws m t z l k).errIndex = s.errIndex := rfl
@[simp] theorem produced_cfg (cws : List Nat) (m t z l k : Nat) : (s.produced cws m t z l k).cfg = s.cfg := rfl
@[simp] theorem produced_rs (cws : List Nat) (m t z l k : Nat) : (s.produced cws m t z l k).rs = s.rs := rfl
@[simp] theorem produced_act (cws : List Nat) (m t z l k : Nat) : (s.produced cws m t z l k).act = s.act := rfl
@[simp] theorem produced_outW (cws : List Nat) (m t z l k : Nat) : (s.produced cws m t z l k).outW = s.outW := rfl
@[simp] theorem produced_outH (cws : List Nat) (m t z l k : Nat) : (s.produced cws m t z l k).outH = s.outH := rfl
@[simp] theorem produced_res (cws : List Nat) (m t z l k : Nat) : (s.produced cws m t z l k).res = s.res.produced m cws.length t z l k := rfl
@[simp] theorem produced_inBuf (cws : List Nat) (m t z l k : Nat) : (s.produced cws m t z l k).inBuf = s.inBuf := rfl
@[simp] theorem produced_cw (cws : List Nat) (m t z l k : Nat) : (s.produced cws m t z l k).cw = s.cw.writeNats 0 cws := rfl
@[simp] theorem produced_plan (cws : List Nat) (m t z l k : Nat) : (s.produced cws m t z l k).plan = s.plan := rfl
@[simp] theorem produced_alphaTo (cws : List Nat) (m t z l k : Nat) : (s.produced cws m t z l k).alphaTo = s.alphaTo := rfl
@[simp] theorem produced_indexOf (cws : List Nat) (m t z l k : Nat) : (s.produced cws m t z l k).indexOf = s.indexOf := rfl
@[simp] theorem produced_genpoly (cws : List Nat) (m t z l k : Nat) : (s.produced cws m t z l k).genpoly = s.genpoly := rfl
@[simp] theorem produced_mat (cws : List Nat) (m t z l k : Nat) : (s.produced cws m t z l k).mat = s.mat := rfl
@[simp] theorem produced_latch (cws : List Nat) (m t z l k : Nat) : (s.produced cws m t z l k).latch = s.latch := rfl
@[simp] theorem produced_rst (cws : List Nat) (m t z l k : Nat) : (s.produced cws m t z l k).rst = s.rst := rfl
@[simp] theorem produced_draws (cws : List Nat) (m t z l k : Nat) : (s.produced cws m t z l k).draws = s.draws := rfl
@[simp] theorem produced_pending (cws : List Nat) (m t z l k : Nat) : (s.produced cws m t z l k).pending = s.pending := rfl
@[simp] theorem produced_responses (cws : List Nat) (m t z l k : Nat) : (s.produced cws m t z l k).responses = s.responses := rfl

/-! ### `layOut` -/

@[simp] theorem layOut_ctrl (rows : List (List (BitVec 2))) (w h : Nat) : (s.layOut rows w h).ctrl = s.ctrl := rfl
@[simp] theorem layOut_done (rows : List (List (BitVec 2))) (w h : Nat) : (s.layOut rows w h).done = s.done := rfl
@[simp] theorem layOut_err (rows : List (List (BitVec 2))) (w h : Nat) : (s.layOut rows w h).err = s.err := rfl
@[simp] theorem layOut_cmdReject (rows : List (List (BitVec 2))) (w h : Nat) : (s.layOut rows w h).cmdReject = s.cmdReject := rfl
@[simp] theorem layOut_busViol (rows : List (List (BitVec 2))) (w h : Nat) : (s.layOut rows w h).busViol = s.busViol := rfl
@[simp] theorem layOut_rsReady (rows : List (List (BitVec 2))) (w h : Nat) : (s.layOut rows w h).rsReady = s.rsReady := rfl
@[simp] theorem layOut_pipeSym (rows : List (List (BitVec 2))) (w h : Nat) : (s.layOut rows w h).pipeSym = s.pipeSym := rfl
@[simp] theorem layOut_pipeStage (rows : List (List (BitVec 2))) (w h : Nat) : (s.layOut rows w h).pipeStage = s.pipeStage := rfl
@[simp] theorem layOut_errCode (rows : List (List (BitVec 2))) (w h : Nat) : (s.layOut rows w h).errCode = s.errCode := rfl
@[simp] theorem layOut_errDetail (rows : List (List (BitVec 2))) (w h : Nat) : (s.layOut rows w h).errDetail = s.errDetail := rfl
@[simp] theorem layOut_errIndex (rows : List (List (BitVec 2))) (w h : Nat) : (s.layOut rows w h).errIndex = s.errIndex := rfl
@[simp] theorem layOut_cfg (rows : List (List (BitVec 2))) (w h : Nat) : (s.layOut rows w h).cfg = s.cfg := rfl
@[simp] theorem layOut_rs (rows : List (List (BitVec 2))) (w h : Nat) : (s.layOut rows w h).rs = s.rs := rfl
@[simp] theorem layOut_act (rows : List (List (BitVec 2))) (w h : Nat) : (s.layOut rows w h).act = s.act := rfl
@[simp] theorem layOut_outW (rows : List (List (BitVec 2))) (w h : Nat) : (s.layOut rows w h).outW = BitVec.ofNat 11 w := rfl
@[simp] theorem layOut_outH (rows : List (List (BitVec 2))) (w h : Nat) : (s.layOut rows w h).outH = BitVec.ofNat 9 h := rfl
@[simp] theorem layOut_res (rows : List (List (BitVec 2))) (w h : Nat) : (s.layOut rows w h).res = s.res := rfl
@[simp] theorem layOut_inBuf (rows : List (List (BitVec 2))) (w h : Nat) : (s.layOut rows w h).inBuf = s.inBuf := rfl
@[simp] theorem layOut_cw (rows : List (List (BitVec 2))) (w h : Nat) : (s.layOut rows w h).cw = s.cw := rfl
@[simp] theorem layOut_plan (rows : List (List (BitVec 2))) (w h : Nat) : (s.layOut rows w h).plan = s.plan := rfl
@[simp] theorem layOut_alphaTo (rows : List (List (BitVec 2))) (w h : Nat) : (s.layOut rows w h).alphaTo = s.alphaTo := rfl
@[simp] theorem layOut_indexOf (rows : List (List (BitVec 2))) (w h : Nat) : (s.layOut rows w h).indexOf = s.indexOf := rfl
@[simp] theorem layOut_genpoly (rows : List (List (BitVec 2))) (w h : Nat) : (s.layOut rows w h).genpoly = s.genpoly := rfl
@[simp] theorem layOut_mat (rows : List (List (BitVec 2))) (w h : Nat) : (s.layOut rows w h).mat = matOfRows rows := rfl
@[simp] theorem layOut_latch (rows : List (List (BitVec 2))) (w h : Nat) : (s.layOut rows w h).latch = s.latch := rfl
@[simp] theorem layOut_rst (rows : List (List (BitVec 2))) (w h : Nat) : (s.layOut rows w h).rst = s.rst := rfl
@[simp] theorem layOut_draws (rows : List (List (BitVec 2))) (w h : Nat) : (s.layOut rows w h).draws = s.draws := rfl
@[simp] theorem layOut_pending (rows : List (List (BitVec 2))) (w h : Nat) : (s.layOut rows w h).pending = s.pending := rfl
@[simp] theorem layOut_responses (rows : List (List (BitVec 2))) (w h : Nat) : (s.layOut rows w h).responses = s.responses := rfl

end Sys2Proof.Machine.State
end

