-- ==== Sys2Proof/Laws/Commands.lean ====
section
/-! SUPPORT. What each shared frame and each stage's rule can answer, said once, so that a proof about a command cites these and
never unfolds the rule. -/

namespace Sys2Proof.Machine

/-! ### Results of rules -/

@[simp] theorem CmdResult.andThen_ok (s : State) (f : State → CmdResult) : (CmdResult.ok s).andThen f = f s := rfl

@[simp] theorem CmdResult.andThen_raised (e : CmdError) (s : State) (f : State → CmdResult) :
    (CmdResult.raised e s).andThen f = .raised e s := rfl

@[simp] theorem CmdResult.finish_ok (s : State) : (CmdResult.ok s).finish = s.complete := rfl

@[simp] theorem CmdResult.finish_raised (e : CmdError) (s : State) : (CmdResult.raised e s).finish = s.raise e := rfl

@[simp] theorem CmdResult.finishRsInit_ok (s : State) : (CmdResult.ok s).finishRsInit = s.complete := rfl

@[simp] theorem CmdResult.finishRsInit_raised (e : CmdError) (s : State) :
    (CmdResult.raised e s).finishRsInit = s.raiseRsInit e := rfl

/-- A composition ends well exactly when both parts do. -/
theorem CmdResult.andThen_eq_ok {r : CmdResult} {f : State → CmdResult} {u : State} :
    r.andThen f = .ok u ↔ ∃ t, r = .ok t ∧ f t = .ok u := by
  cases r <;> simp

/-- A composition raises in its first part or in its second. -/
theorem CmdResult.andThen_eq_raised {r : CmdResult} {f : State → CmdResult} {e : CmdError} {u : State} :
    r.andThen f = .raised e u ↔ r = .raised e u ∨ ∃ t, r = .ok t ∧ f t = .raised e u := by
  cases r <;> simp

/-! ### The frames of the commands -/

/-- Everything a first stage or a whole-pipeline command can do (40_control_pipeline R210, R212, R234). -/
theorem firstStage_cases (sym : PipeSym) (leaves : PipeStage) (rule : State → CmdResult) (s : State) :
    (∃ e, checkConfig sym s = some e ∧ firstStage sym leaves rule s = s.raise e) ∨
    (checkConfig sym s = none ∧ ∃ e u, rule s = .raised e u ∧ firstStage sym leaves rule s = u.raise e) ∨
    (checkConfig sym s = none ∧ ∃ u, rule s = .ok u ∧ firstStage sym leaves rule s = (u.setPipe sym leaves).complete) := by
  unfold firstStage withConfig leaving
  cases hc : checkConfig sym s with
  | some e => exact .inl ⟨e, rfl, rfl⟩
  | none =>
    cases hr : rule s with
    | raised e u => exact .inr (.inl ⟨rfl, e, u, rfl, rfl⟩)
    | ok u => exact .inr (.inr ⟨rfl, u, rfl, rfl⟩)

/-- Everything a later stage can do (40_control_pipeline R210 to R212). -/
theorem laterStage_cases (sym : PipeSym) (needs leaves : PipeStage) (rule : State → CmdResult) (s : State) :
    (¬ (s.pipeSym = sym ∧ s.pipeStage = needs) ∧
      laterStage sym needs leaves rule s = s.raise (errorAt .sequence 0)) ∨
    ((s.pipeSym = sym ∧ s.pipeStage = needs) ∧
      ((∃ e, checkConfig sym s = some e ∧ laterStage sym needs leaves rule s = s.raise e) ∨
       (checkConfig sym s = none ∧ ∃ e u, rule s = .raised e u ∧ laterStage sym needs leaves rule s = u.raise e) ∨
       (checkConfig sym s = none ∧
         ∃ u, rule s = .ok u ∧ laterStage sym needs leaves rule s = (u.setPipe sym leaves).complete))) := by
  by_cases h : s.pipeSym = sym ∧ s.pipeStage = needs
  · have e : laterStage sym needs leaves rule s = firstStage sym leaves rule s := by
      simp [laterStage, withStage, firstStage, h]
    rw [e]
    exact .inr ⟨h, firstStage_cases sym leaves rule s⟩
  · refine .inl ⟨h, ?_⟩
    simp [laterStage, withStage, h]

/-- A first stage whose configuration is legal and whose rule succeeds. -/
theorem firstStage_ok {sym : PipeSym} {leaves : PipeStage} {rule : State → CmdResult} {s u : State}
    (hc : checkConfig sym s = none) (hr : rule s = .ok u) :
    firstStage sym leaves rule s = (u.setPipe sym leaves).complete := by
  simp [firstStage, withConfig, leaving, hc, hr]

/-- A first stage whose rule raises. -/
theorem firstStage_raised {sym : PipeSym} {leaves : PipeStage} {rule : State → CmdResult} {s u : State} {e : CmdError}
    (hc : checkConfig sym s = none) (hr : rule s = .raised e u) : firstStage sym leaves rule s = u.raise e := by
  simp [firstStage, withConfig, leaving, hc, hr]

/-- A later stage in its place whose configuration is legal and whose rule succeeds. -/
theorem laterStage_ok {sym : PipeSym} {needs leaves : PipeStage} {rule : State → CmdResult} {s u : State}
    (h1 : s.pipeSym = sym) (h2 : s.pipeStage = needs) (hc : checkConfig sym s = none) (hr : rule s = .ok u) :
    laterStage sym needs leaves rule s = (u.setPipe sym leaves).complete := by
  simp [laterStage, withStage, withConfig, leaving, h1, h2, hc, hr]

/-- A later stage in its place whose rule raises. -/
theorem laterStage_raised {sym : PipeSym} {needs leaves : PipeStage} {rule : State → CmdResult} {s u : State} {e : CmdError}
    (h1 : s.pipeSym = sym) (h2 : s.pipeStage = needs) (hc : checkConfig sym s = none) (hr : rule s = .raised e u) :
    laterStage sym needs leaves rule s = u.raise e := by
  simp [laterStage, withStage, withConfig, leaving, h1, h2, hc, hr]

/-- The configuration check reads the configuration registers only (60_exceptions R720). -/
theorem checkConfig_congr {s t : State} (h : t.cfg = s.cfg) (sym : PipeSym) : checkConfig sym t = checkConfig sym s := by
  cases s
  cases t
  simp only at h
  subst h
  rfl

/-! ### What the rules answer, whatever the tables -/

/-- `t` differs from `s` at most in what the stages write: `PLAN`, `CW`, `MAT`, the extent and the result registers. -/
def StageFrame (s t : State) : Prop :=
  t = { s with plan := t.plan, cw := t.cw, mat := t.mat, outW := t.outW, outH := t.outH, res := t.res }

/-- The optimize stage of Data Matrix: no check fails (42_dm_optimizer R290, R303). -/
theorem dmOptimize_ok_iff (T : Tables) (s u : State) :
    dmOptimize T s = .ok u ↔ s.n ≤ Config.maxByteCount ∧
      ∃ modes, dmPlan T s.gs1 s.mode s.message = .ok modes ∧ u = s.storePlan (modes.map DmMode.code) := by
  unfold dmOptimize
  by_cases h : Config.maxByteCount < s.n
  · simp [h]
  · cases hp : dmPlan T s.gs1 s.mode s.message with
    | error e => simp [h]
    | ok modes => simp [h, Nat.le_of_not_lt h, eq_comm]

/-- The optimize stage of Data Matrix raises before it writes anything (60_exceptions R717). -/
theorem dmOptimize_raised {T : Tables} {s u : State} {e : CmdError} (h : dmOptimize T s = .raised e u) : u = s := by
  unfold dmOptimize at h
  split at h
  · injection h with _ h; exact h.symm
  · split at h
    · injection h with _ h; exact h.symm
    · cases h

/-- The produce stage of Data Matrix (44_dm_producer R361, R375). -/
theorem dmProduce_ok_iff (T : Tables) (s u : State) :
    dmProduce T s = .ok u ↔ ∃ size, dmSelect T s.size (s.dmEmitted T).out.length = .ok size ∧
      u = { s with
        cw := s.cw.writeNats 0 (dmDataCodewords (s.dmEmitted T) (dmSize T size).data)
        res := s.res.produced (s.dmEmitted T).out.length (dmSize T size).data ((dmSize T size).data + (dmSize T size).parity)
          size 0 0 } := by
  unfold dmProduce
  simp only
  cases hs : dmSelect T s.size (s.dmEmitted T).out.length with
  | error e => simp
  | ok size => simp [eq_comm]

theorem dmProduce_raised {T : Tables} {s u : State} {e : CmdError} (h : dmProduce T s = .raised e u) : u = s := by
  unfold dmProduce at h
  simp only at h
  split at h
  · injection h with _ h; exact h.symm
  · cases h

/-- The ECC stage of Data Matrix never raises (60_exceptions R711). -/
theorem dmEcc_ok (T : Tables) (s : State) : ∃ cw res, dmEcc T s = .ok { s with cw := cw, res := res } := ⟨_, _, rfl⟩

/-- The layout stage of Data Matrix never raises (60_exceptions R711). -/
theorem dmLayout_ok (T : Tables) (s : State) : ∃ rows w h, dmLayout T s = .ok (s.layOut rows w h) := ⟨_, _, _, rfl⟩

/-- The optimize stage of PDF417 (43_pdf417_optimizer R330). -/
theorem pdfOptimize_ok_iff (T : Tables) (s u : State) :
    pdfOptimize T s = .ok u ↔
      ∃ classes, pdfPlan T s.mode s.message = .ok classes ∧ u = s.storePlan (classes.map PdfClass.code) := by
  unfold pdfOptimize
  cases hp : pdfPlan T s.mode s.message with
  | error e => simp
  | ok classes => simp [eq_comm]

theorem pdfOptimize_raised {T : Tables} {s u : State} {e : CmdError} (h : pdfOptimize T s = .raised e u) : u = s := by
  unfold pdfOptimize at h
  split at h
  · injection h with _ h; exact h.symm
  · cases h

/-- The produce stage of PDF417 ends well or raises before it writes anything (45_pdf417_producer R430). -/
theorem pdfProduce_cases (T : Tables) (s : State) :
    (∃ cws m t z l, pdfProduce T s = .ok (s.produced cws m t z l 0)) ∨ ∃ e, pdfProduce T s = .raised e s := by
  unfold pdfProduce pdfProduceMicro pdfProduceFull
  simp only
  split
  · split
    · exact .inr ⟨_, rfl⟩
    · exact .inl ⟨_, _, _, _, _, rfl⟩
  · split
    · exact .inr ⟨_, rfl⟩
    · exact .inl ⟨_, _, _, _, _, rfl⟩

theorem pdfEcc_ok (s : State) : ∃ cw, pdfEcc s = .ok { s with cw := cw } := ⟨_, rfl⟩

theorem pdfLayout_ok (s : State) : ∃ rows w h, pdfLayout s = .ok (s.layOut rows w h) := ⟨_, _, _, rfl⟩

/-- The produce stage of MaxiCode ends well or raises before it writes anything (46_maxicode_qr_producer R460). -/
theorem maxiProduce_cases (s : State) :
    (∃ cw res, maxiProduce s = .ok { s with cw := cw, res := res }) ∨ ∃ e, maxiProduce s = .raised e s := by
  unfold maxiProduce
  simp only
  split
  · exact .inr ⟨_, rfl⟩
  · split
    · exact .inr ⟨_, rfl⟩
    · exact .inl ⟨_, _, rfl⟩

theorem maxiEcc_ok (s : State) : ∃ cw res, maxiEcc s = .ok { s with cw := cw, res := res } := ⟨_, _, rfl⟩

theorem maxiLayout_ok (s : State) : ∃ rows w h, maxiLayout s = .ok (s.layOut rows w h) := ⟨_, _, _, rfl⟩

/-- The produce stage of QR ends well or raises before it writes anything (46_maxicode_qr_producer R490). -/
theorem qrProduce_cases (T : Tables) (s : State) :
    (∃ cw res, qrProduce T s = .ok { s with cw := cw, res := res }) ∨ ∃ e, qrProduce T s = .raised e s := by
  unfold qrProduce
  simp only
  split
  · exact .inr ⟨_, rfl⟩
  · split
    · exact .inr ⟨_, rfl⟩
    · exact .inl ⟨_, _, rfl⟩

theorem qrEcc_ok (T : Tables) (s : State) : ∃ cw res, qrEcc T s = .ok { s with cw := cw, res := res } := ⟨_, _, rfl⟩

theorem qrLayout_ok (T : Tables) (s : State) : ∃ rows w h, qrLayout T s = .ok (s.layOut rows w h) := ⟨_, _, _, rfl⟩

theorem qrMask_ok (s : State) : ∃ rows res, qrMask s = .ok { s with mat := writeRows s.mat 0 rows, res := res } :=
  ⟨_, _, rfl⟩

/-! ### The host RS engine -/

theorem failIf_true {cond : Bool} (h : cond = true) (code : ErrCode) (detail : Nat) (s : State) (rest : CmdResult) :
    failIf cond code detail s rest = .raised (errorAt code detail) s := by simp [failIf, h]

theorem failIf_false {cond : Bool} (h : cond = false) (code : ErrCode) (detail : Nat) (s : State) (rest : CmdResult) :
    failIf cond code detail s rest = rest := by simp [failIf, h]

/-- `RS_INIT` builds its tables or raises before it writes anything (41_rs_engine R240, R243). -/
theorem rsInit_cases (s : State) :
    (∃ e, rsInit s = .raised e s) ∨
    (checkRsParams s.rs.m.toNat s.rs.fcr.toNat s.rs.prim.toNat s.rs.nroots.toNat s.rs.pad.toNat = none ∧
      (buildField s.rs.m.toNat s.rs.poly.toNat).ok = true ∧
      rsInit s = .ok (s.loadTables (buildField s.rs.m.toNat s.rs.poly.toNat).alpha
        (buildField s.rs.m.toNat s.rs.poly.toNat).index
        (buildGenerator (buildField s.rs.m.toNat s.rs.poly.toNat).alpha (buildField s.rs.m.toNat s.rs.poly.toNat).index
          s.rs.m.toNat s.rs.fcr.toNat s.rs.prim.toNat s.rs.nroots.toNat))) := by
  unfold rsInit
  simp only
  split
  · exact .inl ⟨_, rfl⟩
  next h =>
    by_cases hok : (buildField s.rs.m.toNat s.rs.poly.toNat).ok = true
    · exact .inr ⟨h, hok, failIf_false (by simp [hok]) _ _ _ _⟩
    · exact .inl ⟨_, failIf_true (by simpa using hok) _ _ _ _⟩

/-- The two host encoders write parity to `CW` or raise before they write anything (41_rs_engine R250, R253, R270). -/
theorem rsEncodeWith_cases (s : State) (nroots maxLen limit : Nat) (parity : List Nat → List Nat) :
    (∃ e, rsEncodeWith s nroots maxLen limit parity = .raised e s) ∨
    rsEncodeWith s nroots maxLen limit parity =
      .ok { s with cw := s.cw.writeNats s.rs.dst.toNat (parity (s.cw.nats s.rs.src.toNat s.rs.len.toNat)) } := by
  unfold rsEncodeWith failIf
  simp only
  split
  · exact .inl ⟨_, rfl⟩
  · split
    · exact .inl ⟨_, rfl⟩
    · split
      · exact .inl ⟨_, rfl⟩
      · exact .inr rfl

theorem rsEncode_cases (s : State) :
    (∃ e, rsEncode s = .raised e s) ∨ ∃ cw, rsEncode s = .ok { s with cw := cw } := by
  unfold rsEncode failIf
  simp only
  split
  · exact .inl ⟨_, rfl⟩
  · rcases rsEncodeWith_cases s s.act.nroots.toNat (s.act.nn - s.act.nroots.toNat - s.act.pad.toNat) s.act.nn
      (fun data => lfsrParity data (s.alphaTo.nats 0 256) (s.indexOf.nats 0 256) (s.genpoly.nats 0 256) s.act.nn
        s.act.nroots.toNat) with h | h
    · exact .inl h
    · exact .inr ⟨_, h⟩

theorem rs929Encode_cases (s : State) :
    (∃ e, rs929Encode s = .raised e s) ∨ ∃ cw, rs929Encode s = .ok { s with cw := cw } := by
  unfold rs929Encode
  simp only
  unfold failIf
  split
  · exact .inl ⟨_, rfl⟩
  · rcases rsEncodeWith_cases s s.rs.nroots.toNat (Config.pdfMaxCw - s.rs.nroots.toNat) 928
      (fun data => ecc929 data s.rs.nroots.toNat) with h | h
    · exact .inl h
    · exact .inr ⟨_, h⟩

end Sys2Proof.Machine
end

