-- ==== Sys2Proof/Laws/Galois.lean ====
section
/-! SUPPORT. The product of 41_rs_engine R245 in log form, and that a step of the LFSR adds such products wherever no coefficient of the
generator is 0 (log 25). -/

namespace Sys2Proof.Machine

@[simp] theorem logProduct_zero_left (alpha : List Nat) (nn l : Nat) : logProduct alpha nn nn l = 0 := by simp [logProduct]

@[simp] theorem logProduct_zero_right (alpha : List Nat) (nn l : Nat) : logProduct alpha nn l nn = 0 := by simp [logProduct]

theorem logProduct_of_ne {alpha : List Nat} {nn la lb : Nat} (ha : la ≠ nn) (hb : lb ≠ nn) :
    logProduct alpha nn la lb = alpha.getD ((la + lb) % nn) 0 := by simp [logProduct, ha, hb]

/-- A feedback of 0 only shifts the parity (41_rs_engine R251). -/
theorem lfsrStep_zero {alpha index taps par : List Nat} {nn d : Nat} (h : index.getD (d ^^^ par.headD 0) 0 = nn) :
    lfsrStep alpha index taps nn par d = par.tail ++ [0] := by
  unfold lfsrStep
  exact if_neg (not_not_intro h)

/-- When no coefficient is 0, a step shifts the parity and adds the products of the feedback with the coefficients (41_rs_engine R245,
R251). -/
theorem lfsrStep_products {alpha index taps par : List Nat} {nn d : Nat} (nonzero : ∀ g ∈ taps, g ≠ nn)
    (len : (par.tail ++ [0]).length = taps.length) :
    lfsrStep alpha index taps nn par d =
      List.zipWith (fun p g => p ^^^ logProduct alpha nn (index.getD (d ^^^ par.headD 0) 0) g) (par.tail ++ [0]) taps := by
  by_cases h : index.getD (d ^^^ par.headD 0) 0 = nn
  · rw [lfsrStep_zero h, h]
    simp only [logProduct_zero_left, Nat.xor_zero]
    generalize par.tail ++ [0] = shifted at len ⊢
    apply List.ext_getElem <;> simp [len]
  · unfold lfsrStep
    rw [if_pos h]
    apply List.ext_getElem
    · simp
    · intro k hk _
      have hg : k < taps.length := by simp at hk; omega
      rw [List.getElem_zipWith, List.getElem_zipWith, logProduct_of_ne h (nonzero _ (List.getElem_mem hg))]

end Sys2Proof.Machine
end

