-- ==== Sys2Proof/Laws/HostProgram.lean ====
section
/-! SUPPORT. What a host program and the loop of `wait` can do, said once (30_encoding R190 to R193, 70_reset_and_hazards R762). -/

namespace Sys2Proof.Machine

/-- Bit 0 of `STATUS` is `BUSY` (10_state R46). -/
@[simp] theorem statusWord_busy (s : State) : s.statusWord.getLsbD 0 = s.busy := by
  unfold State.statusWord
  rw [BitVec.getLsbD_append]
  cases s.busy <;> simp

/-- A read of `STATUS` while `rst` is low returns it, `BUSY` or not (20_memory R136). -/
theorem busRead_status {s : State} (h : s.rst = false) : s.busRead Reg.status.address 0b1111 = (s, s.statusWord) := by
  have target : targetOf Reg.status.address.toNat = .reg .status := by decide
  have legal : busAccessLegal Reg.status.address 0b1111 = true := by decide
  unfold State.busRead
  rw [target, legal]
  simp [h, Reg.readableBusy, State.regWord]

/-- Whatever a turn of the loop of `wait` reads, it is a read of `STATUS` and, at most, more events put in front (30_encoding R192). -/
theorem hostPoll_frame (s : State) (k : Nat) :
    ∃ events, s.hostPoll k = { s.hostRead Reg.status.address 0b1111 with pending := events } := by
  unfold State.hostPoll
  simp only
  split
  · exact ⟨_, rfl⟩
  · exact ⟨_, rfl⟩

/-- No statement of a host program is a reset step (30_encoding R191, R192, 70_reset_and_hazards R762). -/
theorem programEvents_noReset {p : List Statement} {e : Event} (he : e ∈ programEvents p) (level : Bool) : e ≠ .rst level := by
  have writes : ∀ (b : BufferName) (vs : List Word) (i : Nat), Event.rst level ∉ bufferWrites b i vs := by
    intro b vs
    induction vs with
    | nil => simp [bufferWrites]
    | cons v vs ih => simp [bufferWrites, writeEvent, ih]
  rintro rfl
  obtain ⟨st, -, h⟩ := List.mem_flatMap.1 he
  cases st <;> simp_all [Statement.events, writeEvent, readEvent]

end Sys2Proof.Machine
end

