-- ==== Sys2Proof/Laws/OpenTables.lean ====
section
/-! SUPPORT. What is known of the OPEN tables whatever their values (92_eei_decisions section 8): the rows of `MPDF_VARIANTS` are legal
and the length of a bar pattern is 17. -/

namespace Sys2Proof.Machine

theorem MicroVariant.mem_insert {v w : MicroVariant} {l : List MicroVariant} : w ∈ v.insert l ↔ w = v ∨ w ∈ l := by
  induction l with
  | nil => simp [MicroVariant.insert]
  | cons x xs ih =>
    unfold MicroVariant.insert
    split
    · simp
    · simp [ih]; tauto

/-- The rows of the table are the legal candidates (45_pdf417_producer R431). -/
theorem mem_variantsOf {v : MicroVariant} {cs : List (Nat × Nat × Nat)} :
    v ∈ variantsOf cs ↔ (v.cols, v.rows, v.ec) ∈ cs ∧ v.legal = true := by
  unfold variantsOf
  rw [show v ∈ _ ↔ v ∈ (cs.map fun c => (⟨c.1, c.2.1, c.2.2⟩ : MicroVariant)).filter MicroVariant.legal by
    generalize (cs.map fun c => (⟨c.1, c.2.1, c.2.2⟩ : MicroVariant)).filter MicroVariant.legal = l
    induction l with
    | nil => simp
    | cons x xs ih => simp [MicroVariant.mem_insert, ih]]
  rw [List.mem_filter, List.mem_map]
  constructor
  · rintro ⟨⟨c, hc, rfl⟩, h⟩
    exact ⟨hc, h⟩
  · rintro ⟨hc, h⟩
    exact ⟨⟨_, hc, rfl⟩, h⟩

/-- Every row of `MPDF_VARIANTS` has 1 to 4 columns, a capacity of at least 1 and at most 176 codewords (45_pdf417_producer R431). -/
theorem mpdfVariants_legal {v : MicroVariant} (h : v ∈ mpdfVariants) :
    1 ≤ v.cols ∧ v.cols ≤ 4 ∧ v.ec < v.cols * v.rows ∧ v.cols * v.rows ≤ 176 := by
  have := (mem_variantsOf.1 h).2
  simp only [MicroVariant.legal, Bool.and_eq_true, decide_eq_true_eq] at this
  tauto

/-- No variant has more than 176 rows. -/
theorem mpdfVariants_rows {v : MicroVariant} (h : v ∈ mpdfVariants) : v.rows ≤ 176 := by
  obtain ⟨h1, -, -, h4⟩ := mpdfVariants_legal h
  nlinarith

theorem length_bitsMsb (v n : Nat) : (bitsMsb v n).length = n := by
  induction n with
  | zero => rfl
  | succ n ih => simp [bitsMsb, ih]

/-- A bar pattern has 17 modules (48_pdf417_layout R561). -/
theorem length_pdfPattern (k v : Nat) : (pdfPattern k v).length = 17 := by
  simp [pdfPattern, length_bitsMsb]

end Sys2Proof.Machine
end

