-- ==== Sys2Proof/Laws/PerInstr.lean ====
section
/-! SUPPORT. The family `RoundTrip`: decoding the encoded word of a command gives the command back (30_encoding R160 to R164). -/

namespace Sys2Proof.Laws.RoundTrip

/-- The word of a command decodes to it, and its opcode is in the map of 30_encoding R162. -/
def Statement (i : Instr) : Prop := decode (encode i) = .command i ∧ opcode i ∈ legalOpcodes

theorem nop : Statement .nop := by unfold Statement; decide
theorem softReset : Statement .softReset := by unfold Statement; decide
theorem rsInit : Statement .rsInit := by unfold Statement; decide
theorem rsEncode : Statement .rsEncode := by unfold Statement; decide
theorem rs929Encode : Statement .rs929Encode := by unfold Statement; decide
theorem dmOptimize : Statement .dmOptimize := by unfold Statement; decide
theorem dmProduce : Statement .dmProduce := by unfold Statement; decide
theorem dmEcc : Statement .dmEcc := by unfold Statement; decide
theorem dmLayout : Statement .dmLayout := by unfold Statement; decide
theorem dmEncode : Statement .dmEncode := by unfold Statement; decide
theorem pdfOptimize : Statement .pdfOptimize := by unfold Statement; decide
theorem pdfProduce : Statement .pdfProduce := by unfold Statement; decide
theorem pdfEcc : Statement .pdfEcc := by unfold Statement; decide
theorem pdfLayout : Statement .pdfLayout := by unfold Statement; decide
theorem pdfEncode : Statement .pdfEncode := by unfold Statement; decide
theorem maxiProduce : Statement .maxiProduce := by unfold Statement; decide
theorem maxiEcc : Statement .maxiEcc := by unfold Statement; decide
theorem maxiLayout : Statement .maxiLayout := by unfold Statement; decide
theorem maxiEncode : Statement .maxiEncode := by unfold Statement; decide
theorem qrProduce : Statement .qrProduce := by unfold Statement; decide
theorem qrEcc : Statement .qrEcc := by unfold Statement; decide
theorem qrLayout : Statement .qrLayout := by unfold Statement; decide
theorem qrMask : Statement .qrMask := by unfold Statement; decide
theorem qrEncode : Statement .qrEncode := by unfold Statement; decide

end Sys2Proof.Laws.RoundTrip
end

