-- ==== Sys2Proof/Laws/Tables.lean ====
section
/-! SUPPORT. What each of the given tables is by default, one lemma for each, all true by unfolding (00_scope R9). -/

namespace Sys2Proof.Machine.Tables

@[simp] theorem given_dmSizes : given.dmSizes = Machine.dmSizes := rfl
@[simp] theorem given_dmSwitch : given.dmSwitch = Machine.dmSwitch := rfl
@[simp] theorem given_dmC40 : given.dmC40 = withUpperShift c40Low := rfl
@[simp] theorem given_dmText : given.dmText = withUpperShift textLow := rfl
@[simp] theorem given_dmX12 : given.dmX12 = x12Value := rfl
@[simp] theorem given_pdfChunkThresh : given.pdfChunkThresh = pdfThreshold := rfl
@[simp] theorem given_pdfTextTables : given.pdfTextTables = textTable := rfl
@[simp] theorem given_pdfAutoEc : given.pdfAutoEc = pdfAutoLevel := rfl
@[simp] theorem given_qrCapacity : given.qrCapacity = Machine.qrCapacity := rfl
@[simp] theorem given_qrAlign : given.qrAlign = qrAlignTable := rfl

end Sys2Proof.Machine.Tables
end

