-- ==== Sys2Proof/Tests/Slice0.lean ====
section
/-! SUPPORT. The model's own tests: the ill-formed terms that WellFormed refuses, the word of every command, the vectors of
95_test_vectors.md for every command, and for every obligation with hypotheses a state that meets them. -/

namespace Sys2Proof.Tests

set_option Elab.async false

open Sys2Proof.Machine

/-! ### WellFormed: one ill-formed term for each check -/

/-- 30_encoding R163: 0x02 is a reserved opcode. -/
theorem test_wf_refuses_reserved_opcode : (CmdWord.opLegal ⟨0x02, 0⟩) = false ∧ (CmdWord.wellFormed ⟨0x02, 0⟩) = false := by decide

/-- 30_encoding R161: reserved bits set. -/
theorem test_wf_refuses_reserved_bits : (CmdWord.rsvClear ⟨0x00, 1⟩) = false ∧ (CmdWord.wellFormed ⟨0x00, 1⟩) = false := by decide

/-- 20_memory R127: a misaligned address. -/
theorem test_wf_refuses_misaligned : busAccessLegal 0x01E 0b1111 = false := by decide

/-- 20_memory R127: a sub-word access. -/
theorem test_wf_refuses_sub_word : busAccessLegal 0x01C 0b0001 = false := by decide

theorem test_wf_accepts : CmdWord.wellFormed ⟨0x5F, 0⟩ = true ∧ busAccessLegal 0x01C 0b1111 = true := by decide

/-! ### Decode: the word of every command, written out from 30_encoding R160 and R162 -/

theorem test_decode_control :
    decode 0b00000000000000000000000000000000 = .command .nop ∧ decode 0b00000000000000000000000000000001 = .command .softReset := by decide

theorem test_decode_rs :
    decode 0b00000000000000000000000000010000 = .command .rsInit ∧ decode 0b00000000000000000000000000010001 = .command .rsEncode ∧
    decode 0b00000000000000000000000000010010 = .command .rs929Encode := by decide

theorem test_decode_dm :
    decode 0b00000000000000000000000000100000 = .command .dmOptimize ∧ decode 0b00000000000000000000000000100001 = .command .dmProduce ∧
    decode 0b00000000000000000000000000100010 = .command .dmEcc ∧ decode 0b00000000000000000000000000100011 = .command .dmLayout ∧
    decode 0b00000000000000000000000000101111 = .command .dmEncode := by decide

theorem test_decode_pdf :
    decode 0b00000000000000000000000000110000 = .command .pdfOptimize ∧ decode 0b00000000000000000000000000110001 = .command .pdfProduce ∧
    decode 0b00000000000000000000000000110010 = .command .pdfEcc ∧ decode 0b00000000000000000000000000110011 = .command .pdfLayout ∧
    decode 0b00000000000000000000000000111111 = .command .pdfEncode := by decide

theorem test_decode_maxi :
    decode 0b00000000000000000000000001000000 = .command .maxiProduce ∧ decode 0b00000000000000000000000001000001 = .command .maxiEcc ∧
    decode 0b00000000000000000000000001000010 = .command .maxiLayout ∧ decode 0b00000000000000000000000001001111 = .command .maxiEncode := by decide

theorem test_decode_qr :
    decode 0b00000000000000000000000001010000 = .command .qrProduce ∧ decode 0b00000000000000000000000001010001 = .command .qrEcc ∧
    decode 0b00000000000000000000000001010010 = .command .qrLayout ∧ decode 0b00000000000000000000000001010011 = .command .qrMask ∧
    decode 0b00000000000000000000000001011111 = .command .qrEncode := by decide

/-- The rows of 95_test_vectors §2.1 that name reserved words: detail 1 comes before detail 2. -/
theorem test_decode_reserved :
    decode 0x00000002 = .unknownOp ∧ decode 0x000000FF = .unknownOp ∧ decode 0x00000160 = .unknownOp ∧
    decode 0x00000100 = .reservedBits .nop ∧ decode 0x80000010 = .reservedBits .rsInit := by decide

theorem test_decode_table_word : decodeTableWord 32 0x2F = some .dmEncode ∧ decodeTableWord 32 0x12F = none := by decide

/-! ### Small states -/

/-- The state an outcome holds. -/
def after (o : Host.Outcome State Fault Refusal) : State :=
  match o with
  | .next s => s
  | .fault _ | .refused _ => State.reset

/-- The fields of `SYM_CFG` the tests set; the options are false. -/
def sym (mode ecl size : Nat) : SymCfg :=
  ⟨false, false, false, false, false, BitVec.ofNat 4 mode, BitVec.ofNat 4 ecl, BitVec.ofNat 8 size⟩

/-- After reset the host wrote a message and `SYM_CFG`. -/
def fed (bytes : List Nat) (c : SymCfg) : State :=
  { State.reset with
    inBuf := State.reset.inBuf.writeNats 0 bytes
    cfg := { CfgRegs.reset with inLen := BitVec.ofNat 13 bytes.length, symCfg := c } }

/-- The host also wrote `PDF_GEOM`. -/
def State.geom (s : State) (rows cols : Nat) : State :=
  { s with cfg := { s.cfg with rows := BitVec.ofNat 8 rows, cols := BitVec.ofNat 8 cols } }

/-- A state in the middle of a pipeline, with what the stages before left in `PLAN` and `CW`. -/
def staged (s : State) (p : PipeSym) (g : PipeStage) (plan cws : List Nat) (res : ResultRegs) : State :=
  { s with
    pipeSym := p, pipeStage := g, plan := Buffer.cleared.writeNats 0 plan, cw := Buffer.cleared.writeNats 0 cws, res := res }

/-- Result registers with the four values later stages read. -/
def results (total data size ecl : Nat) : ResultRegs :=
  { ResultRegs.reset with
    cwTotal := BitVec.ofNat 13 total, cwData := BitVec.ofNat 13 data, selSize := BitVec.ofNat 16 size, selEcl := BitVec.ofNat 4 ecl }

/-- Only `IN_LEN` and `SYM_CFG` set: the state of a configuration check. -/
def configured (n : Nat) (c : SymCfg) : State :=
  { State.reset with cfg := { CfgRegs.reset with inLen := BitVec.ofNat 13 n, symCfg := c } }

/-- The RS registers set, and `CW[0..)` written. -/
def rsWith (r : RsRegs) (cws : List Nat) : State := { State.reset with rs := r, cw := State.reset.cw.writeNats 0 cws }

/-- The state after the `RS_INIT` of the second row of 95_test_vectors §2.2.1. -/
def rsReady4 (src len dst : Nat) (cws : List Nat) : State :=
  after (exec .rsInit (rsWith ⟨4, 0x13, 0, 1, 4, 0, BitVec.ofNat 12 src, BitVec.ofNat 13 len, BitVec.ofNat 12 dst⟩ cws))

/-- The `DARK` bits of the symbol in `MAT`, one number a row, leftmost module most significant. -/
def darkRows (s : State) : List Nat :=
  (matRows s.mat s.outH.toNat s.outW.toNat).map fun row => ofBitsMsb (row.map fun b => b.toNat % 2)

/-- `ERR_CODE` and `ERR_INDEX`, as words. -/
def errorWords (s : State) : Word × Word := (s.regWord .errCode, s.regWord .errIndex)

/-- "123456" -/
def digits6 : List Nat := [49, 50, 51, 52, 53, 54]
/-- "HELLO" -/
def hello : List Nat := [72, 69, 76, 76, 79]
/-- "01234567" -/
def digits8 : List Nat := [48, 49, 50, 51, 52, 53, 54, 55]
/-- "12345" -/
def digits5 : List Nat := [49, 50, 51, 52, 53]
/-- `k` nines; nine digits are one Numeric Shift, so no OPEN table is read -/
def nines (k : Nat) : List Nat := List.replicate k 57

/-! ### The commands, from 95_test_vectors -/

/-- §2.1 and §3.6: `NOP`. -/
theorem test_nop : (after (exec .nop (State.reset.accept 0))).statusWord = 0x00000002 := by decide +kernel

/-- §2.1: `SOFT_RESET` resets `CTRL` and `IN_LEN`, keeps `IN`, and `irq` is low. -/
theorem test_soft_reset :
    let t := after (exec .softReset { fed [0x41] (sym 1 1 1) with ctrl := ⟨true, true⟩ })
    t.regWord .ctrl = 0 ∧ t.regWord .inLen = 0 ∧ t.irq = false ∧ t.inBuf.get 0 = 0x41 ∧ t.statusWord = 0x00000002 := by decide +kernel

/-- §2.2.1, row 2. -/
theorem test_rs_init :
    let t := after (exec .rsInit (rsWith ⟨4, 0x13, 0, 1, 4, 0, 0, 0, 0⟩ []))
    t.alphaTo.nats 0 16 = [1, 2, 4, 8, 3, 6, 12, 11, 5, 10, 7, 14, 15, 13, 9, 0] ∧
    t.indexOf.nats 0 16 = [15, 0, 1, 4, 2, 8, 5, 10, 3, 14, 9, 7, 6, 13, 11, 12] ∧
    t.genpoly.nats 0 6 = [6, 0, 4, 12, 0, 0] ∧ t.statusWord = 0x00000022 := by decide +kernel

/-- §2.2.1: a polynomial that fails the order check. -/
theorem test_rs_init_not_primitive :
    let t := after (exec .rsInit (rsWith ⟨4, 0x11, 0, 1, 2, 0, 0, 0, 0⟩ []))
    errorWords t = (0x00000606, 0xFFFFFFFF) ∧ t.rsReady = false ∧ t.regWord .rsAct0 = 0 := by decide +kernel

/-- §2.2.2 with m = 4, the parity written over the data: it is the parity of the values before the command (41_rs_engine R253). -/
theorem test_rs_encode_overlap :
    (after (exec .rsEncode (rsReady4 0 5 1 [1, 2, 3, 4, 5]))).cw.nats 0 5 = [1, 6, 11, 0, 12] := by decide +kernel

/-- §2.2.2: the symbol range. -/
theorem test_rs_encode_range :
    errorWords (after (exec .rsEncode (rsReady4 0 3 3 [1, 16, 3]))) = (0x00000208, 1) := by decide +kernel

/-- §2.2.3. -/
theorem test_rs929_encode :
    (after (exec .rs929Encode (rsWith ⟨0, 0, 0, 0, 8, 0, 0, 4, 4⟩ [4, 214, 341, 449]))).cw.nats 4 8 =
      [187, 453, 75, 910, 264, 321, 791, 104] := by decide +kernel

/-- §2.2.3: a symbol above 928. -/
theorem test_rs929_encode_range :
    errorWords (after (exec .rs929Encode (rsWith ⟨0, 0, 0, 0, 2, 0, 0, 2, 4⟩ [1, 929]))) = (0x00000208, 1) := by decide +kernel

/-- §2.3.1: "ABCDE", forced X12. -/
theorem test_dm_optimize :
    let t := after (exec .dmOptimize (fed [65, 66, 67, 68, 69] (sym 4 0 0)))
    t.plan.nats 0 6 = [3, 3, 3, 0, 0, 15] ∧ t.regWord .planLen = 6 ∧ t.statusWord = 0x00001102 := by decide +kernel

/-- §2.3.1: "AB" and the byte 1, forced X12. -/
theorem test_dm_optimize_charset :
    errorWords (after (exec .dmOptimize (fed [65, 66, 1] (sym 4 0 0)))) = (0x00000405, 2) := by decide +kernel

/-- §2.3.2: two bytes in forced Base256. -/
theorem test_dm_produce :
    let t := after (exec .dmProduce (staged (fed [0x80, 0x81] (sym 6 0 0)) .dm .planned [5, 5, 15] [] ResultRegs.reset))
    t.cw.nats 0 5 = [231, 46, 65, 216, 129] ∧ t.regWord .cwMsg = 4 ∧ t.regWord .cwTotal = 12 ∧ t.regWord .selSize = 2 := by decide +kernel

/-- §3.2: "123456". -/
theorem test_dm_ecc :
    (after (exec .dmEcc (staged (fed digits6 (sym 0 0 0)) .dm .produced [] [142, 164, 186] (results 8 3 1 0)))).cw.nats 0 8 =
      [142, 164, 186, 114, 25, 5, 88, 102] := by decide +kernel

/-- 47_dm_maxicode_layout R524: "123456". -/
theorem test_dm_layout :
    darkRows (after (exec .dmLayout
      (staged (fed digits6 (sym 0 0 0)) .dm .protectedCw [] [142, 164, 186, 114, 25, 5, 88, 102] (results 8 3 1 0)))) =
    [0b1010101010, 0b1100101101, 0b1100000100, 0b1100011101, 0b1100001000,
     0b1000001111, 0b1110110000, 0b1111011001, 0b1001110100, 0b1111111111] := by decide +kernel

/-- §3.2: the whole pipeline. -/
theorem test_dm_encode :
    let t := after (exec .dmEncode (fed digits6 (sym 0 0 0)))
    t.statusWord = 0x00004102 ∧ t.plan.nats 0 7 = [0, 0, 0, 0, 0, 0, 15] ∧ t.cw.nats 0 8 = [142, 164, 186, 114, 25, 5, 88, 102] ∧
    t.mat.get (matIndex 1 1) = 0b01 ∧ t.mat.get (matIndex 0 0) = 0b11 := by decide +kernel

/-- §3.4: scenario 4. -/
theorem test_dm_encode_charset :
    let t := after (exec .dmEncode (fed [97, 98, 99] (sym 5 0 0)))
    errorWords t = (0x00000505, 0) ∧ t.statusWord = 0x00000004 := by decide +kernel

/-- 43_pdf417_optimizer R336: a short numeric chunk between bytes becomes bytes. -/
theorem test_pdf_optimize :
    (after (exec .pdfOptimize (fed [128, 49, 50, 51, 52, 53, 54, 55, 129] (sym 0 15 0)))).plan.nats 0 10 =
      [3, 3, 3, 3, 3, 3, 3, 3, 3, 15] := by decide +kernel

/-- §2.4: "12a", forced Numeric. -/
theorem test_pdf_optimize_charset :
    errorWords (after (exec .pdfOptimize (fed [49, 50, 97] (sym 1 15 0)))) = (0x00000105, 2) := by decide +kernel

/-- §3.5: "HELLO". -/
theorem test_pdf_produce :
    let t := after (exec .pdfProduce (staged (fed hello (sym 0 15 0)) .pdf .planned [2, 2, 2, 2, 2, 15] [] ResultRegs.reset))
    t.cw.nats 0 4 = [4, 214, 341, 449] ∧ t.regWord .selSize = 0x206 ∧ t.regWord .cwTotal = 12 ∧ t.regWord .selEcl = 2 := by decide +kernel

/-- §1.6: scenario 6, no variant is looked at. -/
theorem test_pdf_produce_micro_too_long :
    errorWords (after (exec .pdfProduce (staged (fed (List.replicate 260 65) { sym 0 0 0 with micro := true }) .pdf .planned
      (List.replicate 260 2) [] ResultRegs.reset))) = (0x00000404, 0xFFFFFFFF) := by decide +kernel

/-- §3.5: "HELLO". -/
theorem test_pdf_ecc :
    (after (exec .pdfEcc (staged (fed hello (sym 0 15 0)) .pdf .produced [] [4, 214, 341, 449] (results 12 4 0x206 2)))).cw.nats 0 12 =
      [4, 214, 341, 449, 187, 453, 75, 910, 264, 321, 791, 104] := by decide +kernel

/-- 48_pdf417_layout R562, R564: a row of 2 columns has 103 modules and starts with `START`; R569: the row indicators of
"6, 2, 2". -/
theorem test_pdf_layout :
    let t := after (exec .pdfLayout (staged (fed hello (sym 0 15 0)) .pdf .protectedCw []
      [4, 214, 341, 449, 187, 453, 75, 910, 264, 321, 791, 104] (results 12 4 0x206 2)))
    t.regWord .outW = 103 ∧ t.regWord .outH = 6 ∧ t.mat.get (matIndex 0 7) = 0b11 ∧ t.mat.get (matIndex 0 8) = 0b10 ∧
    (pdfIndicators 6 2 2 0, pdfIndicators 6 2 2 1) = ((1, 1), (8, 1)) := by decide +kernel

/-- §2.4, "HELLO", `ECL = 0`: the codewords of the whole pipeline. -/
theorem test_pdf_encode :
    let t := after (exec .pdfEncode (fed hello (sym 0 0 0)))
    t.statusWord = 0x00004202 ∧ t.cw.nats 0 6 = [4, 214, 341, 449, 251, 208] ∧ t.regWord .selSize = 0x203 := by decide +kernel

/-- §2.5: the structured primary message of mode 2; the secondary message is nine digits, value 999999999
(46_maxicode_qr_producer R464). -/
theorem test_maxi_produce :
    let s := fed (nines 9) (sym 0 0 2)
    let x := 152382802 + 9 * 2 ^ 30
    let t := after (exec .maxiProduce { s with
      cfg := { s.cfg with maxiPostal := BitVec.ofNat 32 x, xHi := BitVec.ofNat 4 (x / 2 ^ 32), country := 840, service := 1 } })
    t.cw.nats 0 16 = [34, 20, 45, 20, 17, 18, 2, 18, 7, 0, 31, 59, 38, 44, 39, 63] ∧ t.regWord .cwMsg = 6 ∧
    t.statusWord = 0x00002302 := by decide +kernel

/-- 46_maxicode_qr_producer R477: the parity of the primary message stands at `CW[10..20)`. -/
theorem test_maxi_ecc :
    let t := after (exec .maxiEcc (staged (fed (nines 9) (sym 0 0 2)) .maxi .produced []
      [34, 20, 45, 20, 17, 18, 2, 18, 7, 0, 1, 2, 3] (results 144 94 2 0)))
    t.cw.nats 0 23 = [34, 20, 45, 20, 17, 18, 2, 18, 7, 0, 61, 53, 12, 1, 38, 55, 55, 6, 31, 40, 1, 2, 3] := by decide +kernel

/-- 47_dm_maxicode_layout R530: the extent. -/
theorem test_maxi_layout :
    let t := after (exec .maxiLayout (staged (fed (nines 9) (sym 0 0 2)) .maxi .protectedCw [] [] (results 144 94 2 0)))
    t.regWord .outW = 30 ∧ t.regWord .outH = 33 ∧ t.statusWord = 0x00004302 := by decide +kernel

/-- The whole pipeline in mode 4: the mode and the message in the primary message (46_maxicode_qr_producer R466). -/
theorem test_maxi_encode :
    let t := after (exec .maxiEncode (fed (nines 9) (sym 0 0 4)))
    t.cw.nats 0 7 = [4, 31, 59, 38, 44, 39, 63] ∧ t.statusWord = 0x00004302 := by decide +kernel

/-- §3.3: "01234567" at 1-M. -/
theorem test_qr_produce :
    let t := after (exec .qrProduce (fed digits8 (sym 0 1 1)))
    t.cw.nats 0 16 = [16, 32, 12, 86, 97, 128, 236, 17, 236, 17, 236, 17, 236, 17, 236, 17] ∧ t.regWord .qrBits = 41 ∧
    t.regWord .cwMsg = 6 ∧ t.regWord .selMode = 1 ∧ t.statusWord = 0x00002402 := by decide +kernel

/-- §2.6.1: "hello", forced Alphanumeric. -/
theorem test_qr_produce_charset :
    errorWords (after (exec .qrProduce (fed [104, 101, 108, 108, 111] (sym 2 0 0)))) = (0x00000205, 0) := by decide +kernel

/-- §3.3. -/
theorem test_qr_ecc :
    (after (exec .qrEcc (staged (fed digits8 (sym 0 1 1)) .qr .produced []
      [16, 32, 12, 86, 97, 128, 236, 17, 236, 17, 236, 17, 236, 17, 236, 17] (results 26 16 1 1)))).cw.nats 16 10 =
      [165, 36, 212, 193, 237, 54, 199, 135, 44, 85] := by decide +kernel

/-- §3.3: the state before the layout. -/
def qrProtected : State := staged (fed digits8 (sym 0 1 1)) .qr .protectedCw []
  [16, 32, 12, 86, 97, 128, 236, 17, 236, 17, 236, 17, 236, 17, 236, 17, 165, 36, 212, 193, 237, 54, 199, 135, 44, 85] (results 26 16 1 1)

/-- §2.6.2. -/
theorem test_qr_layout :
    darkRows (after (exec .qrLayout qrProtected)) =
    [0b111111100001001111111, 0b100000100011001000001, 0b101110100100101011101, 0b101110100000101011101,
     0b101110100111001011101, 0b100000100100001000001, 0b111111101010101111111, 0b000000000101000000000,
     0b000000100000000000000, 0b100001011110000001000, 0b101100110001110111011, 0b100110000000100011000,
     0b100011111101110110100, 0b000000001111011101000, 0b111111100010001000100, 0b100000100111011100001,
     0b101110100100000001000, 0b101110100000000000100, 0b101110100111110110000, 0b100000100100100010010,
     0b111111100011110110000] := by decide +kernel

/-- §2.6.3: the penalty of mask 2 for the symbol of §2.6.2; the least of the eight. -/
theorem test_qr_mask :
    (after (exec .qrMask { staged (fed digits8 (sym 0 1 1)) .qr .placed [] [] (results 26 16 1 1) with
      mat := (after (exec .qrLayout qrProtected)).mat })).res.qrPenalty.p2 = 1037 ∧
    chooseMask [1057, 1053, 1037, 1052, 1090, 1197, 1099, 1046] = 2 := by decide +kernel

/-- §2.6.4: "12345" at 1-L. -/
theorem test_qr_encode :
    let t := after (exec .qrEncode (fed digits5 (sym 0 0 1)))
    t.statusWord = 0x00005402 ∧ t.cw.nats 0 5 = [16, 20, 123, 90, 0] ∧ t.regWord .outW = 21 := by decide +kernel

/-- 49_qr_layout_mask R650, R652: words of the two information tables. -/
theorem test_qr_information_words :
    (List.range 8).map (qrFormatInfo 0) = [0x77C4, 0x72F3, 0x7DAA, 0x789D, 0x662F, 0x6318, 0x6C41, 0x6976] ∧
    qrFormatInfo 1 2 = 0x5E7C ∧ qrFormatInfo 3 0 = 0x1689 ∧ qrVersionInfo 7 = 0x07C94 ∧ qrVersionInfo 40 = 0x28C69 := by decide +kernel

/-! ### The step and the bus -/

/-- §2.1: a reserved word ends in the error outcome, at the step after its acceptance. -/
theorem test_step_reserved_word : errorWords (after (step (State.reset.withFetchWord 32 0x160))) = (0x00000101, 0xFFFFFFFF) := by
  decide +kernel

/-- §2.8: `W(0x020000, 0xFFFFFFFF)` and `W(0x004, 0xFFFFFFFF)`. -/
theorem test_bus_write :
    (State.reset.busWrite 0x020000 0b1111 0xFFFFFFFF).cw.get 0 = 0x3FF ∧
    (State.reset.busWrite 0x004 0b1111 0xFFFFFFFF).regWord .ctrl = 3 ∧
    (State.reset.busWrite 0x030000 0b1111 1).busViol = true ∧
    (((State.reset.accept 0).busWrite 0x018 0b1111 5).busViol = true) := by decide +kernel

/-- §3.6: the second `NOP` is rejected if the sequencer has not stepped, accepted if it has. -/
theorem test_command_rejection :
    let s := { State.reset with pending := [.write 0x00C 0b1111 0, .write 0x00C 0b1111 0, .sequencer] }
    let u := { State.reset with pending := [.write 0x00C 0b1111 0, .sequencer, .write 0x00C 0b1111 0, .sequencer] }
    (after (Sys2Proof.core.run 3 s)).statusWord = 0x0000000A ∧ (after (Sys2Proof.core.run 4 u)).statusWord = 0x00000002 := by
  decide +kernel

/-- 30_encoding R192: `wait` reads `STATUS` once when `BUSY = 0`, and while `BUSY = 1` repeats; the words read are kept newest first. -/
theorem test_wait :
    let s := State.reset.withProgram [.wait 2]
    let u := State.reset.withProgram [.cmd .nop, .wait 1]
    (let t := after (Sys2Proof.core.run 1 s); t.responses = [0] ∧ t.pending = []) ∧
    (let t := after (Sys2Proof.core.run 5 u); t.responses = [2, 1, 1] ∧ t.pending = [] ∧ t.busy = false) := by decide +kernel

/-- 00_scope R9: a table given in place of its default is the one the rules read. -/
theorem test_tables :
    dmSize { dmSizes := [⟨1, 1, 4, 4, 1, 2, 1⟩] } 1 = ⟨1, 1, 4, 4, 1, 2, 1⟩ ∧
    pdfLevel { pdfAutoEc := fun _ => 7 } 15 1 = 7 ∧ pdfLevel .given 15 1 = 2 := by decide +kernel

/-! ### Witnesses: for every obligation with hypotheses, states that meet them, each clause at the ends of its range -/

/-- "123456", automatic mode and size. -/
def dmFed : State := fed digits6 (sym 0 0 0)

/-- A word just accepted, nothing else done since reset. -/
def latched (w : Word) : State := State.reset.accept w

/-- The word is in the latch and the sequencer's turn is next. -/
def runsNext (w : Word) : Bool := (latched w).latch == some w && !(latched w).rst && (latched w).pending.isEmpty

theorem witness_SequencerDecodesLatch :
    (([0x00000002, 0x000000FF, 0x00000160] : List Word).all fun w => runsNext w && !legalOpcodes.contains (w.extractLsb' 0 8)) ∧
    (([(0x00000100, .nop), (0x00000110, .rsInit), (0x80000010, .rsInit), (0xFFFFFF5F, .qrEncode)] : List (Word × Instr)).all fun x =>
      runsNext x.1 && x.1.extractLsb' 0 8 == opcode x.2 && x.1.extractLsb' 8 24 != 0) ∧
    (([(0x00000000, .nop), (0x0000005F, .qrEncode)] : List (Word × Instr)).all fun x =>
      runsNext x.1 && x.1.extractLsb' 0 8 == opcode x.2 && x.1.extractLsb' 8 24 == 0) := by decide +kernel

theorem witness_StepRunsDecodedCommand :
    (latched 0x10).latch = some 0x10 ∧ decode 0x10 = .command .rsInit ∧ (latched 0x10).rst = false ∧ (latched 0x10).pending = [] ∧
    ({ latched 0x10 with pending := [.sequencer, .rst true] } : State).pending = .sequencer :: [.rst true] ∧
    decode (BitVec.ofNat 32 0x5F) = .command .qrEncode := by decide +kernel

/-- A state with the tables of GF(16) built and data in `CW`. -/
def ready4 : State := rsReady4 0 5 5 [1, 2, 3, 4, 5]

/-- `RS_ENCODE` accepted in that state, and the host reading `STATUS` next. -/
def polling4 : State := { ready4.accept 0x11 with pending := [.read 0x008 0b1111] }

theorem step_polling (s : State) :
    step { s with pending := [.read 0x008 0b1111] } = .next (({ s with pending := [] } : State).hostRead 0x008 0b1111) := rfl

theorem witness_StepKeepsBuffersWf : polling4.BuffersWf ∧ ∃ t, step polling4 = .next t := by
  refine ⟨?_, _, step_polling (ready4.accept 0x11)⟩
  constructor <;> decide +kernel

theorem witness_StepKeepsStatusWf : polling4.StatusWf ∧ polling4.busy = true ∧ ∃ t, step polling4 = .next t := by
  refine ⟨?_, by decide +kernel, _, step_polling (ready4.accept 0x11)⟩
  constructor <;> decide +kernel

theorem witness_StepKeepsTablesBuilt : polling4.TablesBuilt ∧ polling4.rsReady = true ∧ ∃ t, step polling4 = .next t := by
  refine ⟨?_, by decide +kernel, _, step_polling (ready4.accept 0x11)⟩
  unfold State.TablesBuilt
  decide +kernel

/-- `rst` held high in the middle of a command: what ResetValues and HardReset ask for. -/
theorem witness_HardReset : ((latched 0x2F).driveRst true).rst = true := by decide +kernel

theorem witness_ResetValues : ((latched 0x2F).driveRst true).rst = true ∧ (latched 0x2F).latch.isSome := by decide +kernel

theorem witness_AcceptOrReject :
    State.reset.rst = false ∧ State.reset.latch = none ∧ (latched 0).rst = false ∧ (latched 0).latch ≠ none := by decide +kernel

theorem witness_ExactlyOneOfDoneAndErr :
    (latched 0x20).done = false ∧ (latched 0x20).err = false ∧
    exec .nop (latched 0) = .next (after (exec .nop (latched 0))) ∧ (after (exec .nop (latched 0))).done = true :=
  ⟨by decide +kernel, by decide +kernel, rfl, by decide +kernel⟩

theorem witness_CommandFrame : exec .rsInit dmFed = .next (rsInit dmFed).finishRsInit := rfl

/-- An error of a stage, of `DM_ENCODE` after it wrote `PLAN` (the size is too small), and of `RS_INIT`. -/
theorem witness_EveryErrorIsTheErrorOutcome :
    (latched 0x20).done = false ∧ (after (exec .dmOptimize (latched 0x20))).done = false ∧
    (after (exec .dmEncode ((fed [49, 50, 51, 52, 53, 54, 55] (sym 0 0 1)).accept 0x2F))).done = false ∧
    (after (exec .rsInit (latched 0x10))).done = false := by decide +kernel

theorem witness_SequenceCheck :
    ¬ (State.reset.pipeSym = .dm ∧ State.reset.pipeStage = .planned) ∧
    ¬ ((staged State.reset .qr .produced [] [] ResultRegs.reset).pipeSym = .qr ∧
      (staged State.reset .qr .produced [] [] ResultRegs.reset).pipeStage = .protectedCw) := by decide +kernel

theorem witness_ConfigChecks :
    (configured 0 (sym 7 0 0)).n = 0 ∧ (configured 4097 (sym 0 0 0)).n = 4097 ∧ (configured 1 (sym 0 0 0)).n = 1 ∧
    (configured 4096 (sym 4 0 0)).n = 4096 ∧ (configured 1 (sym 4 0 0)).mode = 4 ∧
    ((configured 1 (sym 3 0 41)).mode = 3 ∧ (configured 1 (sym 3 0 41)).size = 41) ∧
    ((configured 1 (sym 3 4 40)).mode = 3 ∧ (configured 1 (sym 3 4 40)).size = 40 ∧ (configured 1 (sym 3 4 40)).ecl = 4) ∧
    (configured 1 (sym 7 0 0)).mode = 7 ∧ ((configured 1 (sym 6 0 31)).mode = 6 ∧ (configured 1 (sym 6 0 31)).size = 31) ∧
    ((configured 1 (sym 6 1 30)).size = 30 ∧ (configured 1 (sym 6 1 30)).ecl = 1) ∧
    ((configured 1 { sym 2 0 30 with gs1 := true }).mode = 2 ∧ (configured 1 { sym 2 0 30 with gs1 := true }).ecl = 0 ∧
      (configured 1 { sym 2 0 30 with gs1 := true }).gs1 = true) := by decide +kernel

/-- The clauses that a legal configuration passes, at the ends of the ranges. -/
theorem witness_ConfigChecks_legal :
    ((configured 4096 (sym 3 3 40)).mode = 3 ∧ (configured 4096 (sym 3 3 40)).size = 40 ∧ (configured 4096 (sym 3 3 40)).ecl = 3) ∧
    ((configured 1 { sym 1 0 30 with gs1 := true }).mode = 1 ∧ (configured 1 { sym 1 0 30 with gs1 := true }).ecl = 0) ∧
    ((configured 1 (sym 0 0 6)).size = 6 ∧ (configured 1 (sym 0 0 6)).gs1 = false) ∧
    (let s := State.geom (configured 1 (sym 3 8 0)) 90 10
     s.mode = 3 ∧ s.size = 0 ∧ s.ecl = 8 ∧ s.geomRows = 90 ∧ s.geomCols = 10 ∧ s.micro = false ∧ s.gs1 = false) := by decide +kernel

theorem witness_ConfigChecksMaxiPdf_maxi :
    (configured 1 (sym 1 0 2)).mode = 1 ∧ (configured 1 (sym 0 0 1)).size = 1 ∧ (configured 4096 (sym 0 0 7)).size = 7 ∧
    ((configured 1 (sym 0 1 2)).size = 2 ∧ (configured 1 (sym 0 1 2)).ecl = 1) ∧
    ((configured 1 { sym 0 0 6 with gs1 := true }).size = 6 ∧ (configured 1 { sym 0 0 6 with gs1 := true }).gs1 = true) := by
  decide +kernel

/-- The PDF417 clauses: mode 4, size 1, the illegal levels 9 and 14 and, for MicroPDF417, 1; the illegal geometries; `GS1`. -/
theorem witness_ConfigChecksMaxiPdf_pdf :
    (configured 1 (sym 4 0 0)).mode = 4 ∧ (configured 1 (sym 3 0 1)).size = 1 ∧
    ((configured 1 (sym 3 9 0)).ecl = 9 ∧ (configured 1 (sym 0 14 0)).ecl = 14) ∧
    ((configured 1 { sym 0 1 0 with micro := true }).micro = true ∧ (configured 1 { sym 0 1 0 with micro := true }).ecl = 1) ∧
    (State.geom (configured 1 (sym 0 8 0)) 2 0).geomRows = 2 ∧ (State.geom (configured 1 (sym 0 15 0)) 91 0).geomRows = 91 ∧
    (State.geom (configured 1 (sym 0 0 0)) 0 31).geomCols = 31 ∧
    ((State.geom (configured 1 (sym 0 0 0)) 31 30).geomRows = 31 ∧ (State.geom (configured 1 (sym 0 0 0)) 31 30).geomCols = 30) ∧
    (State.geom (configured 1 { sym 0 15 0 with micro := true }) 0 5).geomCols = 5 ∧
    ({ sym 0 0 0 with micro := true, trunc := true } : SymCfg).trunc = true ∧
    ((State.geom (configured 1 { sym 0 8 0 with gs1 := true }) 3 30).gs1 = true) := by decide +kernel

/-- No variant of MicroPDF417 has 255 rows, whatever the OPEN table holds. -/
theorem witness_ConfigChecksMaxiPdf_variant :
    let s := State.geom (configured 1 { sym 0 0 0 with micro := true }) 255 4
    s.mode ≤ 3 ∧ s.size = 0 ∧ s.gs1 = false ∧ s.micro = true ∧ s.cfg.symCfg.trunc = false ∧ s.geomRows ≠ 0 ∧ s.geomCols ≤ 4 ∧
    ∀ v ∈ mpdfVariants, v.rows = s.geomRows → s.geomCols ≠ 0 ∧ v.cols ≠ s.geomCols := by
  refine ⟨by decide +kernel, by decide +kernel, by decide +kernel, by decide +kernel, by decide +kernel, by decide +kernel,
    by decide +kernel, ?_⟩
  intro v hv h
  have h1 := mpdfVariants_rows hv
  have h2 : (State.geom (configured 1 { sym 0 0 0 with micro := true }) 255 4).geomRows = 255 := by decide +kernel
  omega

theorem witness_StepAlwaysGoesOn :
    (let s := State.reset.withProgram [.wait 0]; s.rst = false ∧ s.pending = .poll 0 :: [] ∧ s.latch = none) ∧
    (let s := (latched 0).withProgram [.wait 0]; s.rst = false ∧ s.pending = .poll 0 :: [] ∧ s.latch ≠ none) ∧
    (let s := (latched 0).withProgram [.wait 1]; s.rst = false ∧ s.pending = .poll 1 :: [] ∧ s.latch ≠ none) := by decide +kernel

/-- Reset, and a state after a command, where a write to `STATUS` has something to clear. -/
theorem witness_RegisterReadBack :
    (after (exec .nop (latched 0))).idle ∧ (after (exec .nop (latched 0))).done = true ∧
    State.reset.idle ∧ ∀ r ∈ [Reg.ctrl, .inLen, .symCfg, .pdfGeom, .maxiPostal, .maxiScm, .rsM, .rsPoly, .rsFcr, .rsPrim, .rsNroots,
      .rsPad, .rsSrc, .rsLen, .rsDst], r.implemented.isSome = true := by
  refine ⟨⟨rfl, rfl⟩, rfl, ⟨rfl, rfl⟩, by decide⟩

theorem witness_BufferWriteRead : State.reset.idle ∧ 4095 < 4096 := ⟨⟨rfl, rfl⟩, by decide⟩

theorem witness_ReadOnlyBuffers : State.reset.idle ∧ 4096 < 4097 ∧ 255 < 256 ∧ 1023 < 1024 := ⟨⟨rfl, rfl⟩, by decide⟩

/-- A misaligned and a sub-word access; the first and the last unmapped word of each hole of the map. -/
theorem witness_IllegalUnmappedAndReadOnly :
    ((0x01E : Address).toNat % 4 ≠ 0) ∧ ((0b0111 : ByteEnable) ≠ 0b1111) ∧
    State.reset.rst = false ∧ (latched 0).rst = false ∧
    (([0x02C, 0x03C, 0x06C, 0x07C, 0x0CC, 0x0FC, 0x100, 0x00FFFC, 0x014000, 0x01FFFC, 0x024000, 0x02FFFC, 0x034004, 0x03FFFC,
      0x040C00, 0x0FFFFC, 0x200000, 0xFFFFFC] : List Nat).all fun a => a < 2 ^ 24 && a % 4 == 0 && targetOf a == .unmapped) := by decide +kernel

theorem witness_AccessWhileBusy : (latched 0).rst = false ∧ (latched 0).latch ≠ none ∧ 4095 < 4096 := by decide +kernel

/-- The failing rows of 95_test_vectors §2.2.1, one for each detail and each end of a range. -/
theorem witness_RsInitRejects :
    (buildField 4 0x11).ok = false ∧ (buildField 8 0x100).ok = false ∧
    ∀ x ∈ [((0, 1, 1, 5, 0), 1), ((9, 1, 1, 5, 0), 1), ((4, 16, 1, 4, 0), 2), ((4, 0, 0, 4, 0), 3), ((4, 0, 16, 4, 0), 3),
      ((1, 0, 1, 1, 0), 4), ((4, 15, 15, 0, 0), 4), ((4, 0, 1, 15, 0), 4), ((4, 0, 1, 4, 11), 5), ((4, 0, 1, 14, 1), 5)],
      checkRsParams x.1.1 x.1.2.1 x.1.2.2.1 x.1.2.2.2.1 x.1.2.2.2.2 = some x.2 := by decide +kernel

theorem witness_RsInitBuilds :
    let s := rsWith ⟨4, 0x13, 15, 15, 4, 10, 0, 0, 0⟩ []
    1 ≤ s.rs.m.toNat ∧ s.rs.m.toNat ≤ 8 ∧ s.rs.fcr.toNat ≤ 2 ^ s.rs.m.toNat - 1 ∧ 1 ≤ s.rs.prim.toNat ∧
    s.rs.prim.toNat ≤ 2 ^ s.rs.m.toNat - 1 ∧ 1 ≤ s.rs.nroots.toNat ∧ s.rs.nroots.toNat ≤ 2 ^ s.rs.m.toNat - 2 ∧
    s.rs.pad.toNat ≤ 2 ^ s.rs.m.toNat - 2 - s.rs.nroots.toNat ∧ (buildField s.rs.m.toNat s.rs.poly.toNat).ok = true := by
  decide +kernel

/-- The smallest field, a primitive polynomial, and one that is irreducible but not primitive (41_rs_engine R243). -/
theorem witness_FieldTables :
    (buildField 1 3).ok = true ∧ (buildField 4 0x13).ok = true ∧ (buildField 4 0x1F).ok = true ∧ (buildField 4 0x11).ok = false := by
  decide +kernel

theorem witness_RsEncodeErrors_rs :
    State.reset.rsReady = false ∧
    (let s := rsReady4 4094 3 0 []; s.rsReady = true ∧ s.rs.src.toNat + s.rs.len.toNat = 4097) ∧
    (let s := rsReady4 0 3 4093 []; s.rs.dst.toNat + s.act.nroots.toNat = 4097) ∧
    (let s := rsReady4 0 12 20 []
     s.rs.len.toNat = 12 ∧ 2 ^ s.act.m.toNat - 1 - s.act.nroots.toNat - s.act.pad.toNat = 11) ∧
    (let s := rsReady4 0 11 20 [15, 16, 17]
     s.rs.len.toNat = 11 ∧ (s.cw.get 1).toNat = 16 ∧ (s.cw.get 0).toNat = 15) := by decide +kernel

theorem witness_RsEncodeErrors_rs929 :
    (let s := rsWith ⟨0, 0, 0, 0, 0, 0, 0, 0, 0⟩ []; s.rs.nroots.toNat = 0) ∧
    (let s := rsWith ⟨0, 0, 0, 0, 513, 0, 0, 0, 0⟩ []; s.rs.nroots.toNat = 513) ∧
    (let s := rsWith ⟨0, 0, 0, 0, 1, 0, 4095, 2, 0⟩ []; s.rs.src.toNat + s.rs.len.toNat = 4097) ∧
    (let s := rsWith ⟨0, 0, 0, 0, 512, 0, 0, 0, 3585⟩ []; s.rs.dst.toNat + s.rs.nroots.toNat = 4097) ∧
    (let s := rsWith ⟨0, 0, 0, 0, 9, 0, 0, 920, 0⟩ []; s.rs.len.toNat + s.rs.nroots.toNat = 929) ∧
    (let s := rsWith ⟨0, 0, 0, 0, 2, 0, 0, 2, 0⟩ [928, 929]; (s.cw.get 1).toNat = 929 ∧ (s.cw.get 0).toNat = 928) := by
  decide +kernel

theorem witness_RsEncodeResult :
    ready4.StatusWf ∧ ready4.rsReady = true ∧ ready4.rs.src.toNat + ready4.rs.len.toNat ≤ 4096 ∧
    ready4.rs.dst.toNat + ready4.act.nroots.toNat ≤ 4096 ∧
    ready4.rs.len.toNat ≤ 2 ^ ready4.act.m.toNat - 1 - ready4.act.nroots.toNat - ready4.act.pad.toNat ∧
    ∀ j, j < ready4.rs.len.toNat → (ready4.cw.get (ready4.rs.src.toNat + j)).toNat ≤ 2 ^ ready4.act.m.toNat - 1 := by
  refine ⟨?_, by decide +kernel⟩
  constructor <;> decide +kernel

/-- The state after `RS_INIT` over GF(16) with the primitive element `PRIM` and `NROOTS` roots from `α^0`. -/
def rsReadyPrim (prim nroots len dst : Nat) (cws : List Nat) : State :=
  after (exec .rsInit (rsWith ⟨4, 0x13, 0, BitVec.ofNat 8 prim, BitVec.ofNat 10 nroots, 0, 0, BitVec.ofNat 13 len, BitVec.ofNat 12 dst⟩
    cws))

/-- 41_rs_engine R251, by hand: the generator `x^2 + 1` (a root twice) is `[0, 15]` in log form, and for the data `[1]` the feedback is 0,
so that `par[1]` becomes `alpha[modnn(0 + 15)]` before the shift (log 25). -/
theorem test_rs_encode_zero_coefficient :
    (rsReadyPrim 15 2 1 1 [1]).genpoly.nats 0 3 = [0, 15, 0] ∧
    (after (exec .rsEncode (rsReadyPrim 15 2 1 1 [1]))).cw.nats 0 3 = [1, 1, 1] := by decide +kernel

/-- The greatest data length, parity at the end of `CW`, and a primitive element other than 1. -/
theorem witness_RsRoundTrip :
    let s := rsReadyPrim 7 4 11 4092 [1, 2, 3, 4, 5, 6, 7, 8, 9, 10, 15]
    s.StatusWf ∧ s.TablesBuilt ∧ s.rsReady = true ∧ s.act.pad = 0 ∧ s.isField ∧
    (∀ k, k < s.act.nroots.toNat → (s.genpoly.get k).toNat ≠ 2 ^ s.act.m.toNat - 1) ∧ s.rs.src.toNat + s.rs.len.toNat ≤ 4096 ∧
    s.rs.dst.toNat + s.act.nroots.toNat = 4096 ∧ s.rs.len.toNat = 2 ^ s.act.m.toNat - 1 - s.act.nroots.toNat ∧
    ∀ j, j < s.rs.len.toNat → (s.cw.get (s.rs.src.toNat + j)).toNat ≤ 2 ^ s.act.m.toNat - 1 := by
  refine ⟨?_, ?_, by decide +kernel, by decide +kernel, ?_, by decide +kernel⟩
  · constructor <;> decide +kernel
  · unfold State.TablesBuilt
    decide +kernel
  · have nn : (rsReadyPrim 7 4 11 4092 [1, 2, 3, 4, 5, 6, 7, 8, 9, 10, 15]).act.nn = 15 := by decide +kernel
    have all : ∀ v, v ≤ 15 → 1 ≤ v → ((rsReadyPrim 7 4 11 4092 [1, 2, 3, 4, 5, 6, 7, 8, 9, 10, 15]).alphaTo.get
        ((rsReadyPrim 7 4 11 4092 [1, 2, 3, 4, 5, 6, 7, 8, 9, 10, 15]).indexOf.get v).toNat).toNat = v := by decide +kernel
    exact fun v h1 h2 => all v (nn ▸ h2) h1

theorem witness_Rs929EncodeResult :
    let s := rsWith ⟨0, 0, 0, 0, 512, 0, 4095, 1, 3584⟩ []
    let u : State := { s with cw := s.cw.set 4095 928 }
    1 ≤ u.rs.nroots.toNat ∧ u.rs.nroots.toNat ≤ 512 ∧ u.rs.src.toNat + u.rs.len.toNat ≤ 4096 ∧
    u.rs.dst.toNat + u.rs.nroots.toNat ≤ 4096 ∧ u.rs.len.toNat + u.rs.nroots.toNat ≤ 928 ∧
    ∀ j, j < u.rs.len.toNat → (u.cw.get (u.rs.src.toNat + j)).toNat ≤ 928 := by decide +kernel

theorem witness_Ecc929ZeroSyndromes : (1 ≤ 1 ∧ 1 ≤ 2) ∧ (1 ≤ 2 ∧ 2 ≤ 2) := by decide

theorem witness_DmOptimizeResult :
    checkConfig .dm dmFed = none ∧ dmFed.n ≤ 3116 ∧ dmPlan .given dmFed.gs1 dmFed.mode dmFed.message = .ok (List.replicate 6 .ascii) :=
  ⟨by decide +kernel, by decide +kernel, by decide +kernel⟩

theorem witness_DmOptimizeErrors :
    (checkConfig .dm (configured 3117 (sym 0 0 0)) = none ∧ (configured 3117 (sym 0 0 0)).n = 3117) ∧
    (let s := fed [94, 32, 95] (sym 5 0 0)
     checkConfig .dm s = none ∧ s.mode = 5 ∧ (s.inBuf.get 2).toNat = 95 ∧ (s.inBuf.get 1).toNat = 32 ∧ (s.inBuf.get 0).toNat = 94) ∧
    (let s := fed [65, 66, 1] (sym 4 0 0)
     checkConfig .dm s = none ∧ s.mode = 4 ∧ x12Value (s.inBuf.get 2).toNat = none ∧ (x12Value (s.inBuf.get 0).toNat).isSome ∧
     (x12Value (s.inBuf.get 1).toNat).isSome) := by decide +kernel

theorem witness_DmAutoPlanOptimal :
    digits6.length ≤ 4096 ∧ planCost false .ascii 0 (List.replicate 6 .base256) digits6 = some 7 := by decide +kernel

/-- "123456" with its plan. -/
def dmPlanned : State := staged dmFed .dm .planned [0, 0, 0, 0, 0, 0, 15] [] ResultRegs.reset

/-- A message that fits, one of a codeword more than the largest square size holds, and one of a codeword more than size 1 holds. -/
theorem witness_DmProduceResult :
    (dmPlanned.pipeSym = .dm ∧ dmPlanned.pipeStage = .planned ∧ checkConfig .dm dmPlanned = none ∧
      dmSelect .given dmPlanned.size (dmPlanned.dmEmitted .given).out.length = .ok 1) ∧
    (let s := staged (fed (65 :: List.replicate 779 128) (sym 0 0 0)) .dm .planned (List.replicate 780 0) [] ResultRegs.reset
     s.pipeSym = .dm ∧ s.pipeStage = .planned ∧ checkConfig .dm s = none ∧ s.size = 0 ∧ (s.dmEmitted .given).out.length = 1559) ∧
    (let s := staged (fed [65, 66, 67, 68] (sym 0 0 1)) .dm .planned [0, 0, 0, 0, 15] [] ResultRegs.reset
     s.pipeSym = .dm ∧ s.pipeStage = .planned ∧ checkConfig .dm s = none ∧ s.size = 1 ∧ (s.dmEmitted .given).out.length = 4 ∧
     (dmSize .given s.size).data = 3) := by decide +kernel

theorem witness_DmSizeSelection :
    dmSelect .given 0 1558 = .ok 24 ∧ 1558 < 1559 ∧ 49 ≤ (dmSize .given 30).data ∧ (dmSize .given 30).data < 50 := by decide +kernel

/-- Without and with `LEGACY144`, at sizes 1, 30 and 24. -/
theorem witness_DmEccResult :
    (let s := staged dmFed .dm .produced [] [142, 164, 186] (results 8 3 1 0)
     s.pipeSym = .dm ∧ s.pipeStage = .produced ∧ checkConfig .dm s = none ∧ s.selLow = 1 ∧ s.cfg.symCfg.legacy144 = false) ∧
    (let s := staged dmFed .dm .produced [] [] (results 77 49 30 0)
     s.pipeSym = .dm ∧ s.pipeStage = .produced ∧ checkConfig .dm s = none ∧ s.selLow = 30) ∧
    (let s := staged (fed digits6 { sym 0 0 24 with legacy144 := true }) .dm .produced [] [] (results 2178 1558 24 0)
     s.pipeSym = .dm ∧ s.pipeStage = .produced ∧ checkConfig .dm s = none ∧ s.cfg.symCfg.legacy144 = true ∧ s.selLow = 24) := by
  decide +kernel

/-- The first and the last size. -/
theorem witness_DmLayoutResult :
    (let s := staged dmFed .dm .protectedCw [] [142, 164, 186, 114, 25, 5, 88, 102] (results 8 3 1 0)
     s.pipeSym = .dm ∧ s.pipeStage = .protectedCw ∧ checkConfig .dm s = none ∧ s.selLow = 1) ∧
    (let s := staged dmFed .dm .protectedCw [] [] (results 77 49 30 0)
     s.pipeSym = .dm ∧ s.pipeStage = .protectedCw ∧ checkConfig .dm s = none ∧ s.selLow = 30) := by decide +kernel

theorem witness_DmEncodeIsItsStages :
    checkConfig .dm dmFed = none ∧ dmFed.n ≤ 3116 ∧ dmPlan .given dmFed.gs1 dmFed.mode dmFed.message = .ok (List.replicate 6 .ascii) ∧
    dmSelect .given dmFed.size (dmSegments .given dmFed.gs1 ((List.replicate 6 DmMode.ascii).map DmMode.code) dmFed.message).out.length = .ok 1 :=
  ⟨by decide +kernel, by decide +kernel, by decide +kernel, by decide +kernel⟩

/-- "HELLO", automatic level and geometry. -/
def pdfFed : State := fed hello (sym 0 15 0)

theorem witness_PdfOptimizeResult :
    (checkConfig .pdf pdfFed = none ∧ pdfPlan .given pdfFed.mode pdfFed.message = .ok (List.replicate 5 .text)) ∧
    (let s := fed [49, 50, 97] (sym 1 15 0)
     checkConfig .pdf s = none ∧ s.mode = 1 ∧ isDigit (s.inBuf.get 2).toNat = false ∧ isDigit (s.inBuf.get 0).toNat ∧
     isDigit (s.inBuf.get 1).toNat) ∧
    (let s := fed [65, 127] (sym 2 15 0)
     checkConfig .pdf s = none ∧ s.mode = 2 ∧ pdfClass (s.inBuf.get 1).toNat = .byte ∧ pdfClass (s.inBuf.get 0).toNat ≠ .byte) := by
  decide +kernel

theorem witness_PdfAutoPlan : 4 < hello.length ∧ ∀ b ∈ hello, pdfClass b = .text := by decide +kernel

theorem witness_PdfCodewordRange : (∀ b ∈ [0, 255], b < 256) ∧ 924 ∈ pdfMessage .given [3, 3, 3, 3, 3, 3] [0, 1, 2, 3, 4, 255] := by
  decide +kernel

/-- The clauses of MicroPDF417 that a variant is found and that none is rest on an OPEN table (log 9), so no concrete state can be shown to
meet them; the next theorem has the other errors. -/
theorem witness_PdfProduceResult :
    (let s := staged pdfFed .pdf .planned [2, 2, 2, 2, 2, 15] [] ResultRegs.reset
     s.pipeSym = .pdf ∧ s.pipeStage = .planned ∧ checkConfig .pdf s = none ∧ s.micro = false ∧
     (s.pdfMsg .given).length = 3 ∧ pdfGeometry s.geomRows s.geomCols (3 + 1 + 2 ^ (pdfLevel .given s.ecl (3 + 1) + 1)) = .ok (6, 2)) ∧
    (let s := staged (fed (List.replicate 253 65) { sym 0 0 0 with micro := true }) .pdf .planned (List.replicate 253 2) []
       ResultRegs.reset
     s.pipeSym = .pdf ∧ s.pipeStage = .planned ∧ checkConfig .pdf s = none ∧ s.micro = true ∧ (s.pdfMsg .given).length = 127) := by
  decide +kernel

/-- 52 letters at level 5: 91 codewords, which 9 × 10 does not hold, for which one column needs 91 rows and three rows 31 columns. -/
def pdf91 (rows cols : Nat) : State :=
  staged (State.geom (fed (List.replicate 52 65) (sym 0 5 0)) rows cols) .pdf .planned (List.replicate 52 2) [] ResultRegs.reset

theorem witness_PdfProduceResult_geometry :
    ([(9, 10), (0, 1), (3, 0)].all fun g =>
      let s := pdf91 g.1 g.2
      s.pipeSym == .pdf && s.pipeStage == .planned && checkConfig .pdf s == none && !s.micro && s.geomRows == g.1 && s.geomCols == g.2 &&
      (s.pdfMsg .given).length + 1 + 2 ^ (pdfLevel .given s.ecl ((s.pdfMsg .given).length + 1) + 1) == 91) ∧ 9 * 10 < 91 ∧
    max 3 ((91 + 1 - 1) / 1) = 91 ∧ (91 + 3 - 1) / 3 = 31 := by decide +kernel

/-- 498 bytes at level 8: 929 codewords, which no geometry holds. -/
theorem witness_PdfProduceResult_none :
    (let s := staged (fed (List.replicate 498 200) (sym 0 8 0)) .pdf .planned (List.replicate 498 3) [] ResultRegs.reset
     s.pipeSym = .pdf ∧ s.pipeStage = .planned ∧ checkConfig .pdf s = none ∧ s.micro = false ∧ s.geomRows = 0 ∧ s.geomCols = 0 ∧
     (s.pdfMsg .given).length + 1 + 2 ^ (pdfLevel .given s.ecl ((s.pdfMsg .given).length + 1) + 1) = 929) ∧
    ∀ c, c ≤ 30 → 1 ≤ c → (90 < max 3 ((929 + c - 1) / c) ∨ 928 < max 3 ((929 + c - 1) / c) * c) := by decide +kernel

theorem witness_PdfEccResult :
    let s := staged pdfFed .pdf .produced [] [4, 214, 341, 449] (results 12 4 0x206 2)
    s.pipeSym = .pdf ∧ s.pipeStage = .produced ∧ checkConfig .pdf s = none ∧ s.res.cwTotal.toNat - s.res.cwData.toNat = 8 := by
  decide +kernel

/-- PDF417, truncated PDF417 and MicroPDF417, at the ends of the column range. -/
theorem witness_PdfLayoutResult :
    (let s := staged pdfFed .pdf .protectedCw [] [] (results 90 4 0x1E03 2)
     s.pipeSym = .pdf ∧ s.pipeStage = .protectedCw ∧ checkConfig .pdf s = none ∧ 1 ≤ s.selHigh ∧ s.selHigh ≤ 30 ∧
     s.selLow * s.selHigh ≤ s.res.cwTotal.toNat ∧ s.micro = false ∧ s.cfg.symCfg.trunc = false) ∧
    (let s := staged (fed hello { sym 0 15 0 with trunc := true }) .pdf .protectedCw [] [] (results 12 4 0x103 2)
     checkConfig .pdf s = none ∧ 1 ≤ s.selHigh ∧ s.selLow * s.selHigh ≤ s.res.cwTotal.toNat ∧ s.cfg.symCfg.trunc = true) ∧
    (let s := staged (fed hello { sym 0 15 0 with micro := true }) .pdf .protectedCw [] [] (results 44 4 0x40B 2)
     checkConfig .pdf s = none ∧ s.micro = true ∧ s.selHigh = 4 ∧ s.selLow * s.selHigh ≤ s.res.cwTotal.toNat) := by
  decide +kernel

theorem witness_PdfEncodeIsItsStages :
    checkConfig .pdf pdfFed = none ∧ pdfPlan .given pdfFed.mode pdfFed.message = .ok (List.replicate 5 .text) ∧ pdfFed.micro = false ∧
    (let msg := pdfMessage .given ((List.replicate 5 PdfClass.text).map PdfClass.code) pdfFed.message
     pdfGeometry pdfFed.geomRows pdfFed.geomCols (msg.length + 1 + 2 ^ (pdfLevel .given pdfFed.ecl (msg.length + 1) + 1)) = .ok (6, 2)) :=
  ⟨by decide +kernel, by decide +kernel, by decide +kernel, by decide +kernel⟩

/-- Mode 2 filled to its capacity of 84 codewords, mode 4, and a message one Numeric Shift above the capacity of mode 2. -/
theorem witness_MaxiProduceResult :
    (checkConfig .maxi (fed (nines 126) (sym 0 0 2)) = none ∧
      (match maxiCodewords false (fed (nines 126) (sym 0 0 2)).message with | .ok m => m.length | .error _ => 0) = 84) ∧
    (checkConfig .maxi (fed (nines 9) (sym 0 0 4)) = none ∧
      maxiCodewords false (fed (nines 9) (sym 0 0 4)).message = .ok [31, 59, 38, 44, 39, 63]) ∧
    (checkConfig .maxi (fed (nines 135) (sym 0 0 2)) = none ∧
      (match maxiCodewords false (fed (nines 135) (sym 0 0 2)).message with | .ok m => m.length | .error _ => 0) = 90) := by
  decide +kernel

/-- The lowercase letters at the ends of the range, the second behind a Numeric Shift, and a message that has no byte outside one. That a
byte is in no code set rests on an OPEN table (log 12), so no concrete state can be shown to meet that part. -/
theorem witness_MaxiProduceResult_charset :
    (let s := fed [97] { sym 0 0 4 with maxiLcReject := true }
     checkConfig .maxi s = none ∧ s.cfg.symCfg.maxiLcReject = true ∧ maxiSingles 0 0 s.message = [0] ∧ (s.inBuf.get 0).toNat = 97) ∧
    (let s := fed (nines 9 ++ [122]) { sym 0 0 4 with maxiLcReject := true }
     checkConfig .maxi s = none ∧ s.cfg.symCfg.maxiLcReject = true ∧ maxiSingles 0 0 s.message = [9] ∧ (s.inBuf.get 9).toNat = 122) ∧
    maxiSingles 0 0 (fed (nines 9) (sym 0 0 4)).message = [] := by decide +kernel

/-- Standard and enhanced error correction. -/
theorem witness_MaxiEccResult :
    (let s := staged (fed (nines 9) (sym 0 0 4)) .maxi .produced [] [] (results 144 94 4 0)
     s.pipeSym = .maxi ∧ s.pipeStage = .produced ∧ checkConfig .maxi s = none ∧ s.res.selSize = 4) ∧
    (let s := staged (fed (nines 9) (sym 0 0 5)) .maxi .produced [] [] (results 144 78 5 1)
     s.pipeSym = .maxi ∧ s.pipeStage = .produced ∧ checkConfig .maxi s = none ∧ s.res.selSize = 5) := by decide +kernel

theorem witness_MaxiLayoutResult :
    let s := staged (fed (nines 9) (sym 0 0 6)) .maxi .protectedCw [] [] (results 144 94 6 0)
    s.pipeSym = .maxi ∧ s.pipeStage = .protectedCw ∧ checkConfig .maxi s = none := by decide +kernel

theorem witness_MaxiEncodeIsItsStages :
    let s := fed (nines 9) (sym 0 0 5)
    checkConfig .maxi s = none ∧ maxiCodewords s.cfg.symCfg.maxiLcReject s.message = .ok [31, 59, 38, 44, 39, 63] ∧ s.size = 5 := by
  decide +kernel

/-- "01234567" at 1-M. -/
def qrFed : State := fed digits8 (sym 0 1 1)

/-- The first byte past the digits and past the letters, at index 2; one byte more than 1-L holds; one more than 40-L holds. -/
theorem witness_QrProduceResult_errors :
    (let s := fed [48, 57, 58] (sym 1 0 0)
     checkConfig .qr s = none ∧ s.mode = 1 ∧ isDigit (s.inBuf.get 2).toNat = false ∧ ∀ j, j < 2 → isDigit (s.inBuf.get j).toNat) ∧
    (let s := fed [65, 90, 91] (sym 2 0 0)
     checkConfig .qr s = none ∧ s.mode = 2 ∧ (s.inBuf.get 2).toNat ∉ alnumChars ∧ ∀ j, j < 2 → (s.inBuf.get j).toNat ∈ alnumChars) ∧
    (let s := configured 18 (sym 3 0 1)
     checkConfig .qr s = none ∧ s.size = 1 ∧ ¬ qrLength s.gs1 .byte 1 s.n ≤ 8 * (qrBlocks .given 1 s.ecl).data) ∧
    (let s := configured 2954 (sym 3 0 0)
     checkConfig .qr s = none ∧ s.mode = 3 ∧ s.size = 0 ∧
     ∀ v, v ≤ 40 → 1 ≤ v → ¬ qrLength s.gs1 .byte v s.n ≤ 8 * (qrBlocks .given v s.ecl).data) := by decide +kernel

theorem witness_QrProduceResult :
    checkConfig .qr qrFed = none ∧ qrMode qrFed.mode qrFed.message = .ok .numeric ∧
    qrVersion .given qrFed.gs1 .numeric qrFed.size qrFed.ecl qrFed.n = .ok 1 := by decide +kernel

/-- Capacity reached exactly (17 bytes at 1-L, version 40 by one more than 39 holds) and exceeded. -/
theorem witness_QrVersionSelection :
    qrVersion .given false .byte 0 0 17 = .ok 1 ∧ qrVersion .given false .byte 0 0 18 = .ok 2 ∧ qrVersion .given false .byte 0 0 2953 = .ok 40 ∧
    qrVersion .given false .byte 0 0 2954 = .error (errorAt .capacity 2) ∧ qrVersion .given false .byte 1 0 18 = .error (errorAt .capacity 3) := by
  decide +kernel

/-- Versions 1 and 40. -/
theorem witness_QrEccResult :
    (let s := staged qrFed .qr .produced [] [] (results 26 16 1 1)
     s.pipeSym = .qr ∧ s.pipeStage = .produced ∧ checkConfig .qr s = none ∧ s.res.selSize.toNat = 1 ∧ s.res.selEcl.toNat ≤ 3) ∧
    (let s := staged qrFed .qr .produced [] [] (results 3706 1276 40 3)
     s.pipeSym = .qr ∧ s.pipeStage = .produced ∧ checkConfig .qr s = none ∧ s.res.selSize.toNat = 40 ∧ s.res.selEcl.toNat = 3) := by
  decide +kernel

theorem witness_QrZigzagOnce : (1 ≤ 1 ∧ 1 ≤ 40) ∧ (1 ≤ 40 ∧ 40 ≤ 40) := by decide

theorem witness_QrLayoutResult :
    qrProtected.pipeSym = .qr ∧ qrProtected.pipeStage = .protectedCw ∧ checkConfig .qr qrProtected = none ∧
    1 ≤ qrProtected.res.selSize.toNat ∧ qrProtected.res.selSize.toNat ≤ 40 := by decide +kernel

theorem witness_QrMaskResult :
    let s := staged qrFed .qr .placed [] [] (results 26 16 1 1)
    s.pipeSym = .qr ∧ s.pipeStage = .placed ∧ checkConfig .qr s = none ∧ 1 ≤ s.res.selSize.toNat ∧ s.res.selSize.toNat ≤ 40 := by
  decide +kernel

theorem witness_QrEncodeIsItsStages :
    checkConfig .qr qrFed = none ∧ qrMode qrFed.mode qrFed.message = .ok .numeric ∧
    qrVersion .given qrFed.gs1 .numeric qrFed.size qrFed.ecl qrFed.n = .ok 1 := by decide +kernel

end Sys2Proof.Tests
end

section
/-! The reset values of the registers (10_state R85). -/

namespace Sys2Proof.Machine

/-! ### What the operations of a reset leave of a register -/

/-- Every register but `STATUS` after `resetRegisters` (10_state R44, R85); `STATUS` still shows `BUSY`. -/
theorem State.regWord_resetRegisters (s : State) {r : Reg} (hr : r ≠ .status) :
    s.resetRegisters.regWord r = if r = .id then 0x53454307 else if r = .errIndex then 0xFFFFFFFF else 0 := by
  cases r with
  | status => exact absurd rfl hr
  | qrPenalty k => fin_cases k <;> rfl
  | ctrl | errCode | symCfg | pdfGeom | maxiScm | rsAct0 | rsAct1 =>
    simp [State.regWord, SymCfg.toWord, CfgRegs.reset, RsActive.reset]
  | _ => rfl

/-- No register shows the tables of `GF`. -/
@[simp] theorem State.regWord_dropTables (s : State) (r : Reg) : s.dropTables.regWord r = s.regWord r := by
  cases r <;> rfl

/-- `DONE` and `BUSY` are bits of `STATUS`, so completion shows in no other register. -/
theorem State.regWord_complete (s : State) {r : Reg} (hr : r ≠ .status) : s.complete.regWord r = s.regWord r := by
  cases r with
  | status => exact absurd rfl hr
  | _ => rfl

/-- Hard reset and `resetRegisters` differ in the latch alone among what the registers show. -/
theorem State.regWord_hardReset (s : State) {r : Reg} (hr : r ≠ .status) :
    s.hardReset.regWord r = s.resetRegisters.regWord r := by
  cases r with
  | status => exact absurd rfl hr
  | _ => rfl

@[simp] theorem State.statusWord_hardReset (s : State) : s.hardReset.statusWord = 0 := by
  simp [State.statusWord, State.busy, PipeSym.code, PipeStage.code]

@[simp] theorem State.statusWord_softReset (s : State) : s.resetRegisters.dropTables.complete.statusWord = 2 := by
  simp [State.statusWord, State.busy, PipeSym.code, PipeStage.code]

@[simp] theorem State.regWord_status (s : State) : s.regWord .status = s.statusWord := rfl

/-! ### The registers after each reset -/

theorem State.regWord_reset (r : Reg) :
    State.reset.regWord r = if r = .id then 0x53454307 else if r = .errIndex then 0xFFFFFFFF else 0 := by
  have same : State.reset.resetRegisters = State.reset := rfl
  by_cases hr : r = .status
  · subst hr; rfl
  · rw [← same, State.regWord_resetRegisters _ hr]

theorem State.regWord_after_hardReset (s : State) (r : Reg) :
    s.hardReset.regWord r = if r = .id then 0x53454307 else if r = .errIndex then 0xFFFFFFFF else 0 := by
  by_cases hr : r = .status
  · subst hr; simp
  · rw [State.regWord_hardReset s hr, State.regWord_resetRegisters s hr]

theorem State.regWord_after_softReset (s : State) (r : Reg) :
    s.resetRegisters.dropTables.complete.regWord r =
      if r = .id then 0x53454307 else if r = .errIndex then 0xFFFFFFFF else if r = .status then 2 else 0 := by
  by_cases hr : r = .status
  · subst hr; simp
  · rw [State.regWord_complete _ hr, State.regWord_dropTables, State.regWord_resetRegisters s hr, if_neg hr]

/-- The reset state is taken when a high `rst` returns to 0 (70_reset_and_hazards R750; log 15). -/
theorem State.driveRst_falls {s : State} (h : s.rst = true) : s.driveRst false = s.hardReset := by
  simp [State.driveRst, h]

theorem exec_softReset (s : State) : exec .softReset s = .next s.resetRegisters.dropTables.complete := rfl

/-- Settles O10: the state after each of the three resets is `resetRegisters` of the state before, up to what only `STATUS` shows. -/
theorem resetValues : Obligations.ResetValues := by
  refine ⟨State.regWord_reset, fun s hrst => ?_, fun s => ?_⟩
  · rw [State.driveRst_falls hrst]
    exact ⟨State.regWord_after_hardReset s, rfl⟩
  · exact ⟨_, exec_softReset s, State.regWord_after_softReset s, rfl⟩

end Sys2Proof.Machine
end

section
/-! Bus accesses to the entries of the buffers while the SEC is idle (10_state R75, R76, 20_memory R123, R135). -/

namespace Sys2Proof.Machine

/-! ### The address of an entry -/

theorem entryAddress_toNat {base i : Nat} (h : base + 4 * i < 2 ^ 24) : (entryAddress base i).toNat = base + 4 * i := by
  rw [entryAddress, BitVec.toNat_ofNat, Nat.mod_eq_of_lt h]

/-- A whole-word access at a word-aligned address is legal (20_memory R127). -/
theorem busAccessLegal_of_aligned {a : Address} (h : a.toNat % 4 = 0) : busAccessLegal a 0b1111 = true := by
  have low : a.extractLsb' 0 2 = 0 := by
    apply BitVec.eq_of_toNat_eq
    simpa using h
  simp [busAccessLegal, low]

theorem busAccessLegal_entryAddress {base i : Nat} (h : base + 4 * i < 2 ^ 24) (aligned : base % 4 = 0) :
    busAccessLegal (entryAddress base i) 0b1111 = true := by
  apply busAccessLegal_of_aligned
  rw [entryAddress_toNat h]
  omega

theorem targetOf_inEntry {i : Nat} (hi : i < 4096) : targetOf (entryAddress 0x010000 i).toNat = .inEntry i := by
  rw [entryAddress_toNat (by omega), targetOf, if_neg (by omega), if_pos (by omega)]
  congr 1
  omega

theorem targetOf_cwEntry {i : Nat} (hi : i < 4096) : targetOf (entryAddress 0x020000 i).toNat = .cwEntry i := by
  rw [entryAddress_toNat (by omega), targetOf, if_neg (by omega), if_neg (by omega), if_pos (by omega)]
  congr 1
  omega

/-! ### Idle accesses to `IN` and `CW` -/

@[simp] theorem State.busy_of_idle {s : State} (h : s.idle) : s.busy = false := by
  obtain ⟨hlatch, -⟩ := h
  simp [State.busy, hlatch]

section
variable {s : State} {i : Nat}

/-- A legal read of a mapped address changes nothing and returns the target's word (20_memory R129, R135). -/
theorem busRead_of_idle (h : s.idle) {a : Address} {be : ByteEnable} (legal : busAccessLegal a be = true)
    (mapped : targetOf a.toNat ≠ .unmapped) : s.busRead a be = (s, s.targetWord (targetOf a.toNat)) := by
  have hrst : s.rst = false := h.2
  unfold State.busRead
  cases ht : targetOf a.toNat with
  | unmapped => exact absurd ht mapped
  | reg r => simp [hrst, legal, State.busy_of_idle h, State.targetWord]
  | _ => simp [hrst, legal, State.busy_of_idle h]

theorem busRead_inEntry (h : s.idle) (hi : i < 4096) :
    s.busRead (entryAddress 0x010000 i) 0b1111 = (s, (s.inBuf.get i).setWidth 32) := by
  have target := targetOf_inEntry hi
  rw [busRead_of_idle h (busAccessLegal_entryAddress (by omega) (by decide)) (by simp [target]), target]
  rfl

theorem busRead_cwEntry (h : s.idle) (hi : i < 4096) :
    s.busRead (entryAddress 0x020000 i) 0b1111 = (s, (s.cw.get i).setWidth 32) := by
  have target := targetOf_cwEntry hi
  rw [busRead_of_idle h (busAccessLegal_entryAddress (by omega) (by decide)) (by simp [target]), target]
  rfl

/-- A write to `IN` also clears the pipeline stage (10_state R60). -/
theorem busWrite_inEntry (h : s.idle) (hi : i < 4096) (d : Word) :
    s.busWrite (entryAddress 0x010000 i) 0b1111 d = { s with inBuf := s.inBuf.set i (d.setWidth 8) }.clearPipe := by
  unfold State.busWrite
  rw [targetOf_inEntry hi, busAccessLegal_entryAddress (by omega) (by decide)]
  simp [h.2, State.busy_of_idle h]

/-- A write to `CW` leaves the pipeline stage (10_state R76). -/
theorem busWrite_cwEntry (h : s.idle) (hi : i < 4096) (d : Word) :
    s.busWrite (entryAddress 0x020000 i) 0b1111 d = { s with cw := s.cw.set i (d.setWidth 10) } := by
  unfold State.busWrite
  rw [targetOf_cwEntry hi, busAccessLegal_entryAddress (by omega) (by decide)]
  simp [h.2, State.busy_of_idle h]

theorem idle_busWrite_inEntry (h : s.idle) (hi : i < 4096) (d : Word) :
    (s.busWrite (entryAddress 0x010000 i) 0b1111 d).idle := by
  rw [busWrite_inEntry h hi]
  exact h

theorem idle_busWrite_cwEntry (h : s.idle) (hi : i < 4096) (d : Word) :
    (s.busWrite (entryAddress 0x020000 i) 0b1111 d).idle := by
  rw [busWrite_cwEntry h hi]
  exact h

end

/-! ### Write, then read -/

/-- An entry narrowed on the write and zero-extended on the read is the word's low bits (20_memory R135). -/
theorem setWidth_setWidth_eq_and (d : Word) (w : Nat) :
    (d.setWidth w).setWidth 32 = d &&& BitVec.ofNat 32 (2 ^ w - 1) := by
  apply BitVec.eq_of_getLsbD_eq
  intro k hk
  simp only [BitVec.getLsbD_setWidth, BitVec.getLsbD_and, BitVec.getLsbD_ofNat, Nat.testBit_two_pow_sub_one, hk,
    decide_true, Bool.true_and, Bool.and_comm]

/-- Settles O23: the write is one `Buffer.set`, and the state it leaves is idle, so the read returns the entry set. -/
theorem bufferWriteRead : Obligations.BufferWriteRead := by
  intro s i d hidle hi
  refine ⟨?_, ?_⟩
  · dsimp only
    rw [busRead_inEntry (idle_busWrite_inEntry hidle hi d) hi, busWrite_inEntry hidle hi]
    refine ⟨?_, fun j hj => ?_, rfl⟩
    · simpa [Buffer.get_set _ _ _ _ hi] using setWidth_setWidth_eq_and d 8
    · simp [Buffer.get_set _ _ _ _ hi, hj]
  · dsimp only
    rw [busRead_cwEntry (idle_busWrite_cwEntry hidle hi d) hi, busWrite_cwEntry hidle hi]
    refine ⟨?_, fun j hj => ?_, rfl⟩
    · simpa [Buffer.get_set _ _ _ _ hi] using setWidth_setWidth_eq_and d 10
    · simp [Buffer.get_set _ _ _ _ hi, hj]

end Sys2Proof.Machine
end

section
/-! Every step keeps the canonical form of the buffers (10_state R74; log 3): what a step can do, the operations that touch no buffer,
the rules of the commands, the sequencer and the bus. -/

namespace Sys2Proof.Machine

/-! ### What a step can do -/

/-- A step is the oldest pending event, or the sequencer's turn when none is pending (20_memory R139; log 2). -/
theorem step_cases (s : State) :
    (s.pending = [] ∧ step s = sequencerTurn s) ∨
    ∃ e rest, s.pending = e :: rest ∧ step s = runEvent e { s with pending := rest } := by
  unfold step
  cases s.pending with
  | nil => exact .inl ⟨rfl, rfl⟩
  | cons e rest => exact .inr ⟨e, rest, rfl, rfl⟩

theorem raiseIllegal_reservedBits (s : State) (i : Instr) :
    s.raiseIllegal (.reservedBits i) =
      if i = .rsInit then s.raiseRsInit (errorAt .illegalCmd 2) else s.raise (errorAt .illegalCmd 2) := by
  cases i <;> rfl

/-- The completing step of a latched word, by how the word decodes (30_encoding R161, 60_exceptions R702; log 14). -/
theorem runWord_cases (w : Word) (s : State) :
    (∃ i, decode w = .command i ∧ runWord w s = exec i s) ∨
    (decode w = .unknownOp ∧ runWord w s = .next (s.raise (errorAt .illegalCmd 1))) ∨
    (decode w = .reservedBits .rsInit ∧ runWord w s = .next (s.raiseRsInit (errorAt .illegalCmd 2))) ∨
    ∃ i, decode w = .reservedBits i ∧ i ≠ .rsInit ∧ runWord w s = .next (s.raise (errorAt .illegalCmd 2)) := by
  unfold runWord
  cases decode w with
  | command i => exact .inl ⟨i, rfl, rfl⟩
  | unknownOp => exact .inr (.inl ⟨rfl, rfl⟩)
  | reservedBits i =>
    by_cases hi : i = .rsInit
    · subst hi
      exact .inr (.inr (.inl ⟨rfl, rfl⟩))
    · exact .inr (.inr (.inr ⟨i, rfl, hi, by simp [raiseIllegal_reservedBits, hi]⟩))

/-- The sequencer's turn completes the latched word, or nothing happens (40_control_pipeline R203, 70_reset_and_hazards R750). -/
theorem sequencerTurn_cases (s : State) :
    ((s.latch = none ∨ s.rst = true) ∧ sequencerTurn s = .next s) ∨
    ∃ w, s.latch = some w ∧ s.rst = false ∧ sequencerTurn s = runWord w s := by
  unfold sequencerTurn
  cases s.latch with
  | none => exact .inl ⟨.inl rfl, rfl⟩
  | some w =>
    cases s.rst with
    | true => exact .inl ⟨.inr rfl, rfl⟩
    | false => exact .inr ⟨w, rfl, rfl, rfl⟩

/-! ### Operations that touch no buffer -/

/-- `t` has the seven buffers of `s`. -/
def SameBuffers (s t : State) : Prop :=
  t = { t with
    inBuf := s.inBuf, cw := s.cw, plan := s.plan, alphaTo := s.alphaTo, indexOf := s.indexOf, genpoly := s.genpoly, mat := s.mat }

theorem State.BuffersWf.of_same {s t : State} (h : s.BuffersWf) (same : SameBuffers s t) : t.BuffersWf := by
  rw [same]
  exact ⟨h.inBuf, h.cw, h.plan, h.alphaTo, h.indexOf, h.genpoly, h.mat⟩

theorem State.BuffersWf.raise {s : State} (h : s.BuffersWf) (e : CmdError) : (s.raise e).BuffersWf := h.of_same rfl

theorem State.BuffersWf.complete {s : State} (h : s.BuffersWf) : s.complete.BuffersWf := h.of_same rfl

theorem sameBuffers_writeRegIdle (s : State) (r : Reg) (d : Word) : SameBuffers s (s.writeRegIdle r d) := by
  cases r <;> rfl

theorem sameBuffers_writeRegBusy (s : State) (r : Reg) (d : Word) : SameBuffers s (s.writeRegBusy r d) := by
  cases r <;> rfl

/-- What a read can do to the state: nothing, one draw of a free value, or `BUS_VIOL` (20_memory R130 to R136; log 6). -/
theorem busRead_state_cases (s : State) (a : Address) (be : ByteEnable) :
    (s.busRead a be).1 = s ∨ (s.busRead a be).1 = { s with draws := s.draws + 1 } ∨ (s.busRead a be).1 = s.violate := by
  unfold State.busRead State.drawnRead
  split
  · exact .inr (.inl rfl)
  · split
    · exact .inr (.inr rfl)
    · split
      case h_1 => exact .inr (.inr rfl)
      all_goals
        split
        · exact .inr (.inl rfl)
        · exact .inl rfl

theorem sameBuffers_hostRead (s : State) (a : Address) (be : ByteEnable) : SameBuffers s (s.hostRead a be) := by
  unfold State.hostRead
  rcases busRead_state_cases s a be with h | h | h <;> simp only [h] <;> rfl

/-! ### Operations that make the tables or every buffer unspecified -/

section
variable {s : State}

theorem State.BuffersWf.dropTables (h : s.BuffersWf) : s.dropTables.BuffersWf where
  inBuf := h.inBuf
  cw := h.cw
  plan := h.plan
  alphaTo := Buffer.unspecified_wf _
  indexOf := Buffer.unspecified_wf _
  genpoly := Buffer.unspecified_wf _
  mat := h.mat

theorem State.BuffersWf.raiseRsInit (h : s.BuffersWf) (e : CmdError) : (s.raiseRsInit e).BuffersWf :=
  State.BuffersWf.of_same (h.raise e).dropTables rfl

theorem State.hardReset_buffersWf (s : State) : s.hardReset.BuffersWf := by
  constructor <;> exact Buffer.unspecified_wf _

/-! ### Operations that write a buffer -/

theorem State.BuffersWf.storePlan (h : s.BuffersWf) (codes : List Nat) : (s.storePlan codes).BuffersWf :=
  ⟨h.inBuf, h.cw, Buffer.writeNats_wf h.plan _ _, h.alphaTo, h.indexOf, h.genpoly, h.mat⟩

theorem State.BuffersWf.layOut (h : s.BuffersWf) (rows : List (List (BitVec 2))) (w k : Nat) : (s.layOut rows w k).BuffersWf :=
  ⟨h.inBuf, h.cw, h.plan, h.alphaTo, h.indexOf, h.genpoly, matOfRows_wf rows⟩

theorem State.BuffersWf.loadTables (h : s.BuffersWf) (alpha index gen : List Nat) : (s.loadTables alpha index gen).BuffersWf where
  inBuf := h.inBuf
  cw := h.cw
  plan := h.plan
  alphaTo := Buffer.writeNats_wf Buffer.cleared_wf _ _
  indexOf := Buffer.writeNats_wf Buffer.cleared_wf _ _
  genpoly := Buffer.writeNats_wf Buffer.cleared_wf _ _
  mat := h.mat

theorem State.BuffersWf.withCw (h : s.BuffersWf) {cw : CwBuffer} (hcw : cw.wf) (res : ResultRegs) :
    State.BuffersWf { s with cw := cw, res := res } :=
  ⟨h.inBuf, hcw, h.plan, h.alphaTo, h.indexOf, h.genpoly, h.mat⟩

theorem State.BuffersWf.withMat (h : s.BuffersWf) {mat : MatBuffer} (hmat : mat.wf) (res : ResultRegs) :
    State.BuffersWf { s with mat := mat, res := res } :=
  ⟨h.inBuf, h.cw, h.plan, h.alphaTo, h.indexOf, h.genpoly, hmat⟩

end

/-! ### The rules of the commands -/

/-- The state a rule leaves, whether it succeeds or raises (60_exceptions R717). -/
def CmdResult.state : CmdResult → State
  | .ok s => s
  | .raised _ s => s

@[simp] theorem CmdResult.state_ok (s : State) : (CmdResult.ok s).state = s := rfl

@[simp] theorem CmdResult.state_raised (e : CmdError) (s : State) : (CmdResult.raised e s).state = s := rfl

/-- A rule that leaves every buffer in its canonical form, also where it raises. -/
def KeepsBuffersWf (rule : State → CmdResult) : Prop := ∀ s : State, s.BuffersWf → (rule s).state.BuffersWf

theorem KeepsBuffersWf.andThen {rule next : State → CmdResult} (hr : KeepsBuffersWf rule) (hn : KeepsBuffersWf next) :
    KeepsBuffersWf fun s => (rule s).andThen next := by
  intro s h
  have left := hr s h
  cases hc : rule s with
  | ok t =>
    rw [hc] at left
    simpa [hc] using hn t left
  | raised e t => simpa [hc] using left

theorem failIf_keepsBuffersWf {s : State} (h : s.BuffersWf) {rest : CmdResult} (hrest : rest.state.BuffersWf) (cond : Bool)
    (code : ErrCode) (detail : Nat) : (failIf cond code detail s rest).state.BuffersWf := by
  cases cond with
  | true => rwa [failIf_true rfl]
  | false => rwa [failIf_false rfl]

theorem finish_buffersWf {r : CmdResult} (h : r.state.BuffersWf) : r.finish.BuffersWf := by
  cases r with
  | ok s => exact State.BuffersWf.complete h
  | raised e s => exact State.BuffersWf.raise h e

theorem finishRsInit_buffersWf {r : CmdResult} (h : r.state.BuffersWf) : r.finishRsInit.BuffersWf := by
  cases r with
  | ok s => exact State.BuffersWf.complete h
  | raised e s => exact State.BuffersWf.raiseRsInit h e

/-! #### Data Matrix -/

theorem dmOptimize_keepsBuffersWf (T : Tables) : KeepsBuffersWf (dmOptimize T) := by
  intro s h
  cases hr : dmOptimize T s with
  | ok u =>
    obtain ⟨-, modes, -, rfl⟩ := (dmOptimize_ok_iff T s u).1 hr
    exact h.storePlan _
  | raised e u => exact dmOptimize_raised hr ▸ h

theorem dmProduce_keepsBuffersWf (T : Tables) : KeepsBuffersWf (dmProduce T) := by
  intro s h
  cases hr : dmProduce T s with
  | ok u =>
    obtain ⟨size, -, rfl⟩ := (dmProduce_ok_iff T s u).1 hr
    exact h.withCw (Buffer.writeNats_wf h.cw _ _) _
  | raised e u => exact dmProduce_raised hr ▸ h

theorem dmEcc_keepsBuffersWf (T : Tables) : KeepsBuffersWf (dmEcc T) := by
  intro s h
  have parity : ∀ i vs, (s.cw.writeNats i vs).wf := fun i vs => Buffer.writeNats_wf h.cw i vs
  refine h.withCw ?_ _
  split
  · exact Buffer.write_wf (parity _ _) _ _
  · exact parity _ _

theorem dmLayout_keepsBuffersWf (T : Tables) : KeepsBuffersWf (dmLayout T) := fun _ h => h.layOut _ _ _

theorem dmPipeline_keepsBuffersWf (T : Tables) : KeepsBuffersWf (dmPipeline T) :=
  (((dmOptimize_keepsBuffersWf T).andThen (dmProduce_keepsBuffersWf T)).andThen (dmEcc_keepsBuffersWf T)).andThen
    (dmLayout_keepsBuffersWf T)

/-! #### PDF417 -/

theorem pdfOptimize_keepsBuffersWf (T : Tables) : KeepsBuffersWf (pdfOptimize T) := by
  intro s h
  cases hr : pdfOptimize T s with
  | ok u =>
    obtain ⟨classes, -, rfl⟩ := (pdfOptimize_ok_iff T s u).1 hr
    exact h.storePlan _
  | raised e u => exact pdfOptimize_raised hr ▸ h

theorem pdfProduce_keepsBuffersWf (T : Tables) : KeepsBuffersWf (pdfProduce T) := by
  intro s h
  rcases pdfProduce_cases T s with ⟨cws, m, t, z, l, hr⟩ | ⟨e, hr⟩ <;> rw [hr]
  · exact h.withCw (Buffer.writeNats_wf h.cw 0 cws) _
  · exact h

theorem pdfEcc_keepsBuffersWf : KeepsBuffersWf pdfEcc := fun _ h => h.withCw (Buffer.writeNats_wf h.cw _ _) _

theorem pdfLayout_keepsBuffersWf : KeepsBuffersWf pdfLayout := fun _ h => h.layOut _ _ _

theorem pdfPipeline_keepsBuffersWf (T : Tables) : KeepsBuffersWf (pdfPipeline T) :=
  (((pdfOptimize_keepsBuffersWf T).andThen (pdfProduce_keepsBuffersWf T)).andThen pdfEcc_keepsBuffersWf).andThen
    pdfLayout_keepsBuffersWf

/-! #### MaxiCode -/

theorem maxiProduce_keepsBuffersWf : KeepsBuffersWf maxiProduce := by
  intro s h
  unfold maxiProduce
  split
  · exact h
  · dsimp only
    split
    · exact h
    · exact h.withCw (Buffer.writeNats_wf h.cw _ _) _

theorem maxiEcc_keepsBuffersWf : KeepsBuffersWf maxiEcc := fun _ h => h.withCw (Buffer.writeNats_wf h.cw _ _) _

theorem maxiLayout_keepsBuffersWf : KeepsBuffersWf maxiLayout := fun _ h => h.layOut _ _ _

theorem maxiPipeline_keepsBuffersWf : KeepsBuffersWf maxiPipeline :=
  (maxiProduce_keepsBuffersWf.andThen maxiEcc_keepsBuffersWf).andThen maxiLayout_keepsBuffersWf

/-! #### QR -/

theorem qrProduce_keepsBuffersWf (T : Tables) : KeepsBuffersWf (qrProduce T) := by
  intro s h
  unfold qrProduce
  split
  · exact h
  · split
    · exact h
    · exact h.withCw (Buffer.writeNats_wf h.cw _ _) _

theorem qrEcc_keepsBuffersWf (T : Tables) : KeepsBuffersWf (qrEcc T) :=
  fun _ h => h.withCw (Buffer.writeNats_wf h.cw _ _) _

theorem qrLayout_keepsBuffersWf (T : Tables) : KeepsBuffersWf (qrLayout T) := fun _ h => h.layOut _ _ _

theorem qrMask_keepsBuffersWf : KeepsBuffersWf qrMask := by
  intro s h
  obtain ⟨rows, res, hr⟩ := qrMask_ok s
  rw [hr]
  exact h.withMat (writeRows_wf h.mat 0 rows) res

theorem qrPipeline_keepsBuffersWf (T : Tables) : KeepsBuffersWf (qrPipeline T) :=
  (((qrProduce_keepsBuffersWf T).andThen (qrEcc_keepsBuffersWf T)).andThen (qrLayout_keepsBuffersWf T)).andThen
    qrMask_keepsBuffersWf

/-! #### The host Reed-Solomon engine -/

theorem rsInit_keepsBuffersWf : KeepsBuffersWf rsInit := by
  intro s h
  rcases rsInit_cases s with ⟨e, hr⟩ | ⟨-, -, hr⟩ <;> rw [hr]
  · exact h
  · exact h.loadTables _ _ _

theorem rsEncodeWith_keepsBuffersWf (nroots maxLen limit : Nat) (parity : List Nat → List Nat) :
    KeepsBuffersWf fun s => rsEncodeWith s nroots maxLen limit parity := by
  intro s h
  rcases rsEncodeWith_cases s nroots maxLen limit parity with ⟨e, hr⟩ | hr <;> simp only [hr]
  · exact h
  · exact h.withCw (Buffer.writeNats_wf h.cw _ _) s.res

theorem rsEncode_keepsBuffersWf : KeepsBuffersWf rsEncode := fun s h =>
  failIf_keepsBuffersWf h (rsEncodeWith_keepsBuffersWf _ _ _ _ s h) _ _ _

theorem rs929Encode_keepsBuffersWf : KeepsBuffersWf rs929Encode := fun s h =>
  failIf_keepsBuffersWf h (rsEncodeWith_keepsBuffersWf _ _ _ _ s h) _ _ _

/-! ### The commands -/

section
variable {sym : PipeSym} {needs leaves : PipeStage} {rule : State → CmdResult} {s : State}

theorem firstStage_buffersWf (hr : KeepsBuffersWf rule) (h : s.BuffersWf) : (firstStage sym leaves rule s).BuffersWf := by
  have left := hr s h
  rcases firstStage_cases sym leaves rule s with ⟨e, -, hs⟩ | ⟨-, e, u, hu, hs⟩ | ⟨-, u, hu, hs⟩ <;> rw [hs]
  · exact h.raise e
  · rw [hu] at left
    exact State.BuffersWf.raise left e
  · rw [hu] at left
    exact State.BuffersWf.of_same left rfl

/-- In its place a later stage does what a first stage does (40_control_pipeline R210 to R212). -/
theorem laterStage_eq_firstStage (hsym : s.pipeSym = sym) (hstage : s.pipeStage = needs) :
    laterStage sym needs leaves rule s = firstStage sym leaves rule s := by
  simp [laterStage, withStage, firstStage, hsym, hstage]

theorem laterStage_buffersWf (hr : KeepsBuffersWf rule) (h : s.BuffersWf) : (laterStage sym needs leaves rule s).BuffersWf := by
  rcases laterStage_cases sym needs leaves rule s with ⟨-, hs⟩ | ⟨⟨hsym, hstage⟩, -⟩
  · rw [hs]
    exact h.raise _
  · rw [laterStage_eq_firstStage hsym hstage]
    exact firstStage_buffersWf hr h

end

/-- Whatever state the outcome goes on with has its buffers in their canonical form. -/
def NextBuffersWf (o : Host.Outcome State Fault Refusal) : Prop := ∀ t, o = .next t → t.BuffersWf

theorem State.BuffersWf.next {t : State} (h : t.BuffersWf) : NextBuffersWf (.next t) := by
  intro u hu
  injection hu with hu
  exact hu ▸ h

theorem execSoftReset_buffersWf {s : State} (h : s.BuffersWf) : NextBuffersWf (execSoftReset s) :=
  have registers : s.resetRegisters.BuffersWf := h.of_same rfl
  registers.dropTables.complete.next

theorem exec_buffersWf {s : State} (h : s.BuffersWf) (i : Instr) : NextBuffersWf (exec i s) :=
  match i with
  | .nop => h.complete.next
  | .softReset => execSoftReset_buffersWf h
  | .rsInit => (finishRsInit_buffersWf (rsInit_keepsBuffersWf s h)).next
  | .rsEncode => (finish_buffersWf (rsEncode_keepsBuffersWf s h)).next
  | .rs929Encode => (finish_buffersWf (rs929Encode_keepsBuffersWf s h)).next
  | .dmOptimize => (firstStage_buffersWf (dmOptimize_keepsBuffersWf _) h).next
  | .dmProduce => (laterStage_buffersWf (dmProduce_keepsBuffersWf _) h).next
  | .dmEcc => (laterStage_buffersWf (dmEcc_keepsBuffersWf _) h).next
  | .dmLayout => (laterStage_buffersWf (dmLayout_keepsBuffersWf _) h).next
  | .dmEncode => (firstStage_buffersWf (dmPipeline_keepsBuffersWf _) h).next
  | .pdfOptimize => (firstStage_buffersWf (pdfOptimize_keepsBuffersWf _) h).next
  | .pdfProduce => (laterStage_buffersWf (pdfProduce_keepsBuffersWf _) h).next
  | .pdfEcc => (laterStage_buffersWf pdfEcc_keepsBuffersWf h).next
  | .pdfLayout => (laterStage_buffersWf pdfLayout_keepsBuffersWf h).next
  | .pdfEncode => (firstStage_buffersWf (pdfPipeline_keepsBuffersWf _) h).next
  | .maxiProduce => (firstStage_buffersWf maxiProduce_keepsBuffersWf h).next
  | .maxiEcc => (laterStage_buffersWf maxiEcc_keepsBuffersWf h).next
  | .maxiLayout => (laterStage_buffersWf maxiLayout_keepsBuffersWf h).next
  | .maxiEncode => (firstStage_buffersWf maxiPipeline_keepsBuffersWf h).next
  | .qrProduce => (firstStage_buffersWf (qrProduce_keepsBuffersWf _) h).next
  | .qrEcc => (laterStage_buffersWf (qrEcc_keepsBuffersWf _) h).next
  | .qrLayout => (laterStage_buffersWf (qrLayout_keepsBuffersWf _) h).next
  | .qrMask => (laterStage_buffersWf qrMask_keepsBuffersWf h).next
  | .qrEncode => (firstStage_buffersWf (qrPipeline_keepsBuffersWf _) h).next

/-! ### The sequencer, the bus and the events -/

section
variable {s : State}

theorem sequencerTurn_buffersWf (h : s.BuffersWf) : NextBuffersWf (sequencerTurn s) := by
  rcases sequencerTurn_cases s with ⟨-, hs⟩ | ⟨w, -, -, hs⟩ <;> rw [hs]
  · exact h.next
  · rcases runWord_cases w s with ⟨i, -, hw⟩ | ⟨-, hw⟩ | ⟨-, hw⟩ | ⟨i, -, -, hw⟩ <;> rw [hw]
    · exact exec_buffersWf h i
    · exact (h.raise _).next
    · exact (h.raiseRsInit _).next
    · exact (h.raise _).next

theorem State.BuffersWf.hostRead (h : s.BuffersWf) (a : Address) (be : ByteEnable) : (s.hostRead a be).BuffersWf :=
  h.of_same (sameBuffers_hostRead s a be)

theorem State.BuffersWf.hostPoll (h : s.BuffersWf) (polls : Nat) : (s.hostPoll polls).BuffersWf := by
  obtain ⟨events, hp⟩ := hostPoll_frame s polls
  rw [hp]
  exact State.BuffersWf.of_same (h.hostRead Reg.status.address 0b1111) rfl

theorem State.BuffersWf.driveRst (h : s.BuffersWf) (level : Bool) : (s.driveRst level).BuffersWf := by
  unfold State.driveRst
  split
  · exact h.of_same rfl
  · split
    · exact s.hardReset_buffersWf
    · exact h

/-- What a write can do to the state (20_memory R129 to R137): only an entry of `IN` or `CW` is ever written. -/
theorem busWrite_cases (s : State) (a : Address) (be : ByteEnable) (d : Word) :
    s.busWrite a be d = s ∨ s.busWrite a be d = s.violate ∨
    (∃ r, s.busWrite a be d = s.writeRegBusy r d) ∨ (∃ r, s.busWrite a be d = s.writeRegIdle r d) ∨
    (∃ i, s.busWrite a be d = { s with inBuf := s.inBuf.set i (d.setWidth 8) }.clearPipe) ∨
    ∃ i, s.busWrite a be d = { s with cw := s.cw.set i (d.setWidth 10) } := by
  unfold State.busWrite
  split
  · exact .inl rfl
  · split
    · exact .inr (.inl rfl)
    · split
      next r _ =>
        split
        · exact .inr (.inr (.inl ⟨r, rfl⟩))
        · exact .inr (.inr (.inr (.inl ⟨r, rfl⟩)))
      next i _ =>
        split
        · exact .inr (.inl rfl)
        · exact .inr (.inr (.inr (.inr (.inl ⟨i, rfl⟩))))
      next i _ =>
        split
        · exact .inr (.inl rfl)
        · exact .inr (.inr (.inr (.inr (.inr ⟨i, rfl⟩))))
      all_goals exact .inr (.inl rfl)

theorem State.BuffersWf.busWrite (h : s.BuffersWf) (a : Address) (be : ByteEnable) (d : Word) :
    (s.busWrite a be d).BuffersWf := by
  rcases busWrite_cases s a be d with hs | hs | ⟨r, hs⟩ | ⟨r, hs⟩ | ⟨i, hs⟩ | ⟨i, hs⟩ <;> rw [hs]
  · exact h
  · exact h.of_same rfl
  · exact h.of_same (sameBuffers_writeRegBusy s r d)
  · exact h.of_same (sameBuffers_writeRegIdle s r d)
  · exact ⟨Buffer.set_wf h.inBuf i _, h.cw, h.plan, h.alphaTo, h.indexOf, h.genpoly, h.mat⟩
  · exact h.withCw (Buffer.set_wf h.cw i _) s.res

theorem runEvent_buffersWf (h : s.BuffersWf) (e : Event) : NextBuffersWf (runEvent e s) :=
  match e with
  | .read a be => (h.hostRead a be).next
  | .write a be d => (h.busWrite a be d).next
  | .sequencer => sequencerTurn_buffersWf h
  | .rst level => (h.driveRst level).next
  | .poll polls => (h.hostPoll polls).next

end

/-- Settles O6: a step is one event or one turn of the sequencer, and each keeps the canonical form. -/
theorem stepKeepsBuffersWf : Obligations.StepKeepsBuffersWf := by
  intro s t h hstep
  rcases step_cases s with ⟨-, hs⟩ | ⟨e, rest, -, hs⟩ <;> rw [hs] at hstep
  · exact sequencerTurn_buffersWf h t hstep
  · have popped : State.BuffersWf { s with pending := rest } := h.of_same rfl
    exact runEvent_buffersWf popped e t hstep

end Sys2Proof.Machine
end

section
/-! What an access does by what its address names, idle or busy: registers, buffers, holes of the map (20_memory R122 to R137). -/

namespace Sys2Proof.Machine

/-! ### What an address names -/

/-- A whole-word access at the address is legal and names the target (20_memory R122, R127). -/
def NamesTarget (a : Address) (t : Target) : Prop := busAccessLegal a 0b1111 = true ∧ targetOf a.toNat = t

/-- A bus access is legal exactly when it is aligned and enables every byte lane (20_memory R127). -/
theorem busAccessLegal_iff (a : Address) (be : ByteEnable) :
    busAccessLegal a be = true ↔ a.toNat % 4 = 0 ∧ be = 0b1111 := by
  have low : a.extractLsb' 0 2 = 0 ↔ a.toNat % 4 = 0 := by simp [← BitVec.toNat_inj]
  rw [busAccessLegal, Bool.and_eq_true, beq_iff_eq, beq_iff_eq, low]

theorem Reg.offset_lt (r : Reg) : r.offset < 0x100 := by
  cases r with
  | qrPenalty k => simp only [Reg.offset]; omega
  | _ => decide

theorem Reg.offset_aligned (r : Reg) : r.offset % 4 = 0 := by
  cases r with
  | qrPenalty k => simp only [Reg.offset]; omega
  | _ => rfl

@[simp] theorem Reg.atOffset_offset (r : Reg) : Reg.atOffset r.offset = some r := by
  cases r with
  | qrPenalty k => fin_cases k <;> rfl
  | _ => rfl

/-- The map of offsets names no register but the one with that offset (10_state R44). -/
theorem Reg.offset_of_atOffset {o : Nat} {r : Reg} (h : Reg.atOffset o = some r) : r.offset = o := by
  unfold Reg.atOffset at h
  split at h <;> cases h <;> rfl

theorem Reg.address_toNat (r : Reg) : r.address.toNat = r.offset := by
  have := r.offset_lt
  rw [Reg.address, BitVec.toNat_ofNat, Nat.mod_eq_of_lt (by omega)]

theorem namesTarget_address (r : Reg) : NamesTarget r.address (.reg r) := by
  refine ⟨busAccessLegal_of_aligned ?_, ?_⟩
  · rw [r.address_toNat, r.offset_aligned]
  · rw [r.address_toNat, targetOf, if_pos r.offset_lt, r.atOffset_offset]

/-- An entry's address names what the map of 20_memory R122 gives for its offset. -/
theorem namesTarget_entryAddress {base i : Nat} {t : Target} (inside : base + 4 * i < 2 ^ 24) (aligned : base % 4 = 0)
    (target : targetOf (base + 4 * i) = t) : NamesTarget (entryAddress base i) t :=
  ⟨busAccessLegal_entryAddress inside aligned, by rw [entryAddress_toNat inside, target]⟩

section
variable {i : Nat}

theorem namesTarget_inEntry (hi : i < 4096) : NamesTarget (entryAddress 0x010000 i) (.inEntry i) :=
  ⟨busAccessLegal_entryAddress (by omega) (by decide), targetOf_inEntry hi⟩

theorem namesTarget_cwEntry (hi : i < 4096) : NamesTarget (entryAddress 0x020000 i) (.cwEntry i) :=
  ⟨busAccessLegal_entryAddress (by omega) (by decide), targetOf_cwEntry hi⟩

theorem namesTarget_planEntry (hi : i < 4097) : NamesTarget (entryAddress 0x030000 i) (.planEntry i) := by
  apply namesTarget_entryAddress (by omega) (by decide)
  rw [targetOf, if_neg (by omega), if_neg (by omega), if_neg (by omega), if_pos (by omega)]
  congr 1
  omega

theorem namesTarget_alphaEntry (hi : i < 256) : NamesTarget (entryAddress 0x040000 i) (.alphaEntry i) := by
  apply namesTarget_entryAddress (by omega) (by decide)
  rw [targetOf, if_neg (by omega), if_neg (by omega), if_neg (by omega), if_neg (by omega), if_pos (by omega)]
  congr 1
  omega

theorem namesTarget_indexEntry (hi : i < 256) : NamesTarget (entryAddress 0x040400 i) (.indexEntry i) := by
  apply namesTarget_entryAddress (by omega) (by decide)
  rw [targetOf, if_neg (by omega), if_neg (by omega), if_neg (by omega), if_neg (by omega), if_neg (by omega),
    if_pos (by omega)]
  congr 1
  omega

theorem namesTarget_genEntry (hi : i < 256) : NamesTarget (entryAddress 0x040800 i) (.genEntry i) := by
  apply namesTarget_entryAddress (by omega) (by decide)
  rw [targetOf, if_neg (by omega), if_neg (by omega), if_neg (by omega), if_neg (by omega), if_neg (by omega),
    if_neg (by omega), if_pos (by omega)]
  congr 1
  omega

theorem namesTarget_matEntry (hi : i < 262144) : NamesTarget (entryAddress 0x100000 i) (.matEntry i) := by
  apply namesTarget_entryAddress (by omega) (by decide)
  rw [targetOf, if_neg (by omega), if_neg (by omega), if_neg (by omega), if_neg (by omega), if_neg (by omega),
    if_neg (by omega), if_neg (by omega), if_pos (by omega)]
  congr 1
  omega

end

/-- An address of the register range that the table does not list is unmapped (20_memory R124). -/
theorem targetOf_register_hole {a : Nat} (ha : a < 0x100) (hole : ∀ r : Reg, r.offset ≠ a) : targetOf a = .unmapped := by
  rw [targetOf, if_pos ha]
  cases h : Reg.atOffset a with
  | none => rfl
  | some r => exact absurd (Reg.offset_of_atOffset h) (hole r)

/-- The addresses between the ranges of the map are unmapped (20_memory R122). -/
theorem targetOf_range_hole {a : Nat}
    (hole : (0x100 ≤ a ∧ a < 0x010000) ∨ (0x014000 ≤ a ∧ a < 0x020000) ∨ (0x024000 ≤ a ∧ a < 0x030000) ∨
      (0x034004 ≤ a ∧ a < 0x040000) ∨ (0x040C00 ≤ a ∧ a < 0x100000) ∨ 0x200000 ≤ a) : targetOf a = .unmapped := by
  rw [targetOf, if_neg (by omega), if_neg (by omega), if_neg (by omega), if_neg (by omega), if_neg (by omega),
    if_neg (by omega), if_neg (by omega), if_neg (by omega)]

/-! ### Kinds of targets -/

/-- The target is an entry of a buffer. -/
def Target.isEntry : Target → Bool
  | .reg _ | .unmapped => false
  | .inEntry _ | .cwEntry _ | .planEntry _ | .alphaEntry _ | .indexEntry _ | .genEntry _ | .matEntry _ => true

/-- The target is a register, or an entry of a buffer that the host writes, `IN` or `CW` (20_memory R131). -/
def Target.takesWrites : Target → Bool
  | .reg _ | .inEntry _ | .cwEntry _ => true
  | .planEntry _ | .alphaEntry _ | .indexEntry _ | .genEntry _ | .matEntry _ | .unmapped => false

/-! ### One rule for each kind of access -/

section
variable {s : State} {a : Address} {t : Target} {r : Reg} {be : ByteEnable}

/-- An illegal read returns 0 and sets `BUS_VIOL` (20_memory R132; log 16). -/
theorem busRead_of_illegal (hrst : s.rst = false) (illegal : busAccessLegal a be = false) :
    s.busRead a be = (s.violate, 0) := by
  simp [State.busRead, hrst, illegal]

/-- An illegal write only sets `BUS_VIOL` (20_memory R132; log 16). -/
theorem busWrite_of_illegal (hrst : s.rst = false) (illegal : busAccessLegal a be = false) (d : Word) :
    s.busWrite a be d = s.violate := by
  simp [State.busWrite, hrst, illegal]

/-- A read of an unmapped address returns 0 and sets `BUS_VIOL` (20_memory R130; log 16). -/
theorem busRead_unmapped (hrst : s.rst = false) (names : NamesTarget a .unmapped) :
    s.busRead a 0b1111 = (s.violate, 0) := by
  obtain ⟨legal, target⟩ := names
  unfold State.busRead
  rw [legal, target]
  simp [hrst]

/-- A write to a read-only buffer or to an unmapped address only sets `BUS_VIOL` (20_memory R130, R131; log 16). -/
theorem busWrite_of_not_takesWrites (hrst : s.rst = false) (names : NamesTarget a t) (ht : t.takesWrites = false) (d : Word) :
    s.busWrite a 0b1111 d = s.violate := by
  obtain ⟨legal, rfl⟩ := names
  unfold State.busWrite
  rw [legal]
  cases htarget : targetOf a.toNat with
  | reg | inEntry | cwEntry => simp [htarget, Target.takesWrites] at ht
  | _ => simp [hrst]

theorem busRead_target_of_idle (h : s.idle) (names : NamesTarget a t) (mapped : t ≠ .unmapped) :
    s.busRead a 0b1111 = (s, s.targetWord t) := by
  obtain ⟨legal, rfl⟩ := names
  exact busRead_of_idle h legal mapped

theorem busRead_address_of_idle (h : s.idle) (r : Reg) : s.busRead r.address 0b1111 = (s, s.regWord r) :=
  busRead_target_of_idle h (namesTarget_address r) nofun

theorem busWrite_address_of_idle (h : s.idle) (r : Reg) (d : Word) :
    s.busWrite r.address 0b1111 d = s.writeRegIdle r d := by
  obtain ⟨legal, target⟩ := namesTarget_address r
  unfold State.busWrite
  rw [legal, target]
  simp [h.2, State.busy_of_idle h]

theorem State.busy_of_latch (h : s.latch ≠ none) : s.busy = true := by
  simpa [State.busy, Option.isSome_iff_ne_none] using h

/-- A read of a register while busy: its word, or a free value (20_memory R136; log 6). -/
theorem busRead_address_of_busy (hrst : s.rst = false) (hbusy : s.busy = true) (r : Reg) :
    s.busRead r.address 0b1111 = if r.readableBusy then (s, s.regWord r) else s.drawnRead := by
  obtain ⟨legal, target⟩ := namesTarget_address r
  unfold State.busRead
  rw [legal, target]
  cases hr : r.readableBusy <;> simp [hrst, hbusy, hr]

/-- A read of a buffer entry while busy is a free value and no violation (20_memory R136; log 6). -/
theorem busRead_entry_of_busy (hrst : s.rst = false) (hbusy : s.busy = true) (names : NamesTarget a t)
    (entry : t.isEntry = true) : s.busRead a 0b1111 = s.drawnRead := by
  obtain ⟨legal, rfl⟩ := names
  unfold State.busRead
  rw [legal]
  cases htarget : targetOf a.toNat with
  | reg | unmapped => simp [htarget, Target.isEntry] at entry
  | _ => simp [hrst, hbusy]

theorem busWrite_address_of_busy (hrst : s.rst = false) (hbusy : s.busy = true) (r : Reg) (d : Word) :
    s.busWrite r.address 0b1111 d = s.writeRegBusy r d := by
  obtain ⟨legal, target⟩ := namesTarget_address r
  unfold State.busWrite
  rw [legal, target]
  simp [hrst, hbusy]

/-- A write to a buffer entry while busy is dropped with `BUS_VIOL` (20_memory R137; log 16, log 22). -/
theorem busWrite_entry_of_busy (hrst : s.rst = false) (hbusy : s.busy = true) (names : NamesTarget a t)
    (entry : t.isEntry = true) (d : Word) : s.busWrite a 0b1111 d = s.violate := by
  obtain ⟨legal, rfl⟩ := names
  unfold State.busWrite
  rw [legal]
  cases htarget : targetOf a.toNat with
  | reg => simp [htarget, Target.isEntry] at entry
  | _ => simp [hrst, hbusy]

/-- What a write can do while busy (20_memory R130 to R137). -/
theorem busWrite_cases_of_busy (hbusy : s.busy = true) (a : Address) (be : ByteEnable) (d : Word) :
    s.busWrite a be d = s ∨ s.busWrite a be d = s.violate ∨ ∃ r, s.busWrite a be d = s.writeRegBusy r d := by
  unfold State.busWrite
  simp only [hbusy, if_true]
  split
  · exact .inl rfl
  · split
    · exact .inr (.inl rfl)
    · split
      next r _ => exact .inr (.inr ⟨r, rfl⟩)
      all_goals exact .inr (.inl rfl)

/-! ### Registers that a write only reports -/

/-- The registers that the host can only read (20_memory R131). -/
def Reg.readOnly (r : Reg) : Prop := r ≠ .status ∧ r ≠ .cmd ∧ r.implemented = none

theorem writeRegIdle_readOnly (hr : r.readOnly) (d : Word) : s.writeRegIdle r d = s.violate := by
  obtain ⟨hstatus, hcmd, himp⟩ := hr
  cases r with
  | status => exact absurd rfl hstatus
  | cmd => exact absurd rfl hcmd
  | ctrl | inLen | symCfg | pdfGeom | maxiPostal | maxiScm | rsM | rsPoly | rsFcr | rsPrim | rsNroots | rsPad | rsSrc | rsLen
  | rsDst => simp [Reg.implemented] at himp
  | _ => rfl

/-- While busy every register but `CTRL`, `STATUS` and `CMD` drops the write (20_memory R137; log 22). -/
theorem writeRegBusy_dropped (hr : r ∉ [Reg.ctrl, .status, .cmd]) (d : Word) : s.writeRegBusy r d = s.violate := by
  cases r with
  | ctrl | status | cmd => simp at hr
  | _ => rfl

theorem Reg.not_ctrl_status_cmd_of_readOnly (hr : r.readOnly) : r ∉ [Reg.ctrl, .status, .cmd] := by
  obtain ⟨hstatus, hcmd, himp⟩ := hr
  have hctrl : r ≠ .ctrl := by
    rintro rfl
    simp [Reg.implemented] at himp
  simp [hctrl, hstatus, hcmd]

/-- A write to a read-only register only sets `BUS_VIOL`, idle or busy (20_memory R131, R137). -/
theorem busWrite_readOnly (hrst : s.rst = false) (hr : r.readOnly) (d : Word) :
    s.busWrite r.address 0b1111 d = s.violate := by
  by_cases hlatch : s.latch = none
  · rw [busWrite_address_of_idle ⟨hlatch, hrst⟩, writeRegIdle_readOnly hr]
  · rw [busWrite_address_of_busy hrst (State.busy_of_latch hlatch), writeRegBusy_dropped (Reg.not_ctrl_status_cmd_of_readOnly hr)]

theorem Reg.readableBusy_iff (r : Reg) : r.readableBusy = true ↔ r ∈ [Reg.id, .ctrl, .status, .cmd] := by
  cases r <;> simp [Reg.readableBusy]

/-- No write while busy touches the word of the running command (40_control_pipeline R202). -/
theorem writeRegBusy_latch (r : Reg) (d : Word) : (s.writeRegBusy r d).latch = s.latch := by
  cases r <;> rfl

theorem busWrite_latch_of_busy (hbusy : s.busy = true) (a : Address) (be : ByteEnable) (d : Word) :
    (s.busWrite a be d).latch = s.latch := by
  rcases busWrite_cases_of_busy hbusy a be d with h | h | ⟨r, h⟩ <;> rw [h]
  · rfl
  · exact writeRegBusy_latch r d

theorem busRead_latch (a : Address) (be : ByteEnable) : (s.busRead a be).1.latch = s.latch := by
  rcases busRead_state_cases s a be with h | h | h <;> simp only [h, State.violate]

end

/-! ### The statements on buffers, holes and busy accesses -/

/-- Settles O24: every entry names its target; an idle read returns the target's word, and none of the targets takes writes. -/
theorem readOnlyBuffers : Obligations.ReadOnlyBuffers := by
  intro s i d hidle
  have access : ∀ {a : Address} {t : Target}, NamesTarget a t → t ≠ .unmapped → t.takesWrites = false →
      s.busRead a 0b1111 = (s, s.targetWord t) ∧ s.busWrite a 0b1111 d = { s with busViol := true } :=
    fun names mapped refuses =>
      ⟨busRead_target_of_idle hidle names mapped, busWrite_of_not_takesWrites hidle.2 names refuses d⟩
  refine ⟨fun hi => ?_, fun hi => ?_, fun r c hr hc => ?_⟩
  · exact access (namesTarget_planEntry hi) nofun rfl
  · obtain ⟨readAlpha, writeAlpha⟩ := access (namesTarget_alphaEntry hi) nofun rfl
    obtain ⟨readIndex, writeIndex⟩ := access (namesTarget_indexEntry hi) nofun rfl
    obtain ⟨readGen, writeGen⟩ := access (namesTarget_genEntry hi) nofun rfl
    exact ⟨readAlpha, readIndex, readGen, writeAlpha, writeIndex, writeGen⟩
  · exact access (namesTarget_matEntry (by omega)) nofun rfl

/-- Settles O26: an illegal access and an unmapped address are refused before `BUSY` is looked at, and a read-only register refuses
the write idle and busy. -/
theorem illegalUnmappedAndReadOnly : Obligations.IllegalUnmappedAndReadOnly := by
  intro s a d hrst
  refine ⟨fun be bad => ?_, fun aligned hole => ?_, fun r hr => ?_, fun k => ?_⟩
  · have illegal : busAccessLegal a be = false := by
      rw [Bool.eq_false_iff, Ne, busAccessLegal_iff]
      tauto
    exact ⟨busRead_of_illegal hrst illegal, busWrite_of_illegal hrst illegal d⟩
  · have target : targetOf a.toNat = .unmapped := by
      rcases hole with ⟨low, hole⟩ | hole
      · exact targetOf_register_hole low hole
      · exact targetOf_range_hole hole
    have names : NamesTarget a .unmapped := ⟨busAccessLegal_of_aligned aligned, target⟩
    exact ⟨busRead_unmapped hrst names, busWrite_of_not_takesWrites hrst names rfl d⟩
  · have readOnly : r.readOnly := by
      revert r
      simp [Reg.readOnly, Reg.implemented]
    exact busWrite_readOnly hrst readOnly d
  · have readOnly : (Reg.qrPenalty k).readOnly := ⟨nofun, nofun, rfl⟩
    exact busWrite_readOnly hrst readOnly d

/-- Settles O27: while busy a register answers by `readableBusy` and `writeRegBusy`, an entry by a free value and `BUS_VIOL`. -/
theorem accessWhileBusy : Obligations.AccessWhileBusy := by
  intro s d hrst hlatch
  have hbusy := State.busy_of_latch hlatch
  have read {a : Address} {t : Target} (names : NamesTarget a t) (entry : t.isEntry = true) :
      s.busRead a 0b1111 = s.drawnRead := busRead_entry_of_busy hrst hbusy names entry
  have write (r : Reg) : s.busWrite r.address 0b1111 d = s.writeRegBusy r d := busWrite_address_of_busy hrst hbusy r d
  refine ⟨fun r hr => ?_, fun r hr => ?_, fun i => ⟨fun hi => ?_, fun hi => ?_, fun hi => ?_, fun hi => ?_⟩, write .ctrl,
    write .status, write .cmd, fun r hr => ?_, fun i hi => ?_, fun a be => ?_⟩
  · rw [busRead_address_of_busy hrst hbusy, if_pos (r.readableBusy_iff.2 hr)]
  · rw [busRead_address_of_busy hrst hbusy, if_neg (mt r.readableBusy_iff.1 hr)]
    rfl
  · exact ⟨read (namesTarget_inEntry hi) rfl, read (namesTarget_cwEntry hi) rfl⟩
  · exact read (namesTarget_planEntry hi) rfl
  · exact ⟨read (namesTarget_alphaEntry hi) rfl, read (namesTarget_indexEntry hi) rfl, read (namesTarget_genEntry hi) rfl⟩
  · exact read (namesTarget_matEntry hi) rfl
  · rw [write, writeRegBusy_dropped hr]
    rfl
  · exact ⟨busWrite_entry_of_busy hrst hbusy (namesTarget_inEntry hi) rfl d,
      busWrite_entry_of_busy hrst hbusy (namesTarget_cwEntry hi) rfl d⟩
  · exact ⟨busWrite_latch_of_busy hbusy a be d, busRead_latch a be⟩

end Sys2Proof.Machine
end

section
/-! The registers while the SEC is idle: what a write leaves in the register written and in every other one (10_state R44 to R62,
20_memory R133, R138). -/

namespace Sys2Proof.Machine

/-! ### What a write of a register changes -/

/-- The input and configuration registers, whose write clears the pipeline stage (10_state R60). -/
def inputRegs : List Reg := [.inLen, .symCfg, .pdfGeom, .maxiPostal, .maxiScm]

section
variable {s : State} {r : Reg} {mask : Word}

/-- What a write to a register that stores bits does: it sets `CTRL` or the `RS_*` registers and leaves the pipeline stage, or sets the
input registers and clears it (10_state R60). -/
theorem writeRegIdle_cases (h : r.implemented = some mask) (s : State) (d : Word) :
    (r ∉ inputRegs ∧ ∃ c, s.writeRegIdle r d = { s with ctrl := c }) ∨
    (r ∉ inputRegs ∧ ∃ rs, s.writeRegIdle r d = s.writeRs rs) ∨
    (r ∈ inputRegs ∧ ∃ cfg, s.writeRegIdle r d = s.writeCfg cfg) := by
  cases r with
  | ctrl => exact .inl ⟨by decide, _, rfl⟩
  | rsM | rsPoly | rsFcr | rsPrim | rsNroots | rsPad | rsSrc | rsLen | rsDst => exact .inr (.inl ⟨by decide, _, rfl⟩)
  | inLen | symCfg | pdfGeom | maxiPostal | maxiScm => exact .inr (.inr ⟨by decide, _, rfl⟩)
  | _ => simp [Reg.implemented] at h

/-- The pipeline stage after a write (10_state R60). -/
theorem writeRegIdle_pipe (h : r.implemented = some mask) (s : State) (d : Word) :
    if r ∈ inputRegs then (s.writeRegIdle r d).pipeSym = .noSym ∧ (s.writeRegIdle r d).pipeStage = .noStage
    else (s.writeRegIdle r d).pipeSym = s.pipeSym ∧ (s.writeRegIdle r d).pipeStage = s.pipeStage := by
  rcases writeRegIdle_cases h s d with ⟨hr, c, hs⟩ | ⟨hr, rs, hs⟩ | ⟨hr, cfg, hs⟩ <;> rw [hs]
  · rw [if_neg hr]
    exact ⟨rfl, rfl⟩
  · rw [if_neg hr]
    exact ⟨rfl, rfl⟩
  · rw [if_pos hr]
    exact ⟨rfl, rfl⟩

/-- A write leaves everything but the host's registers and the pipeline stage. -/
theorem writeRegIdle_frame (h : r.implemented = some mask) (s : State) (d : Word) :
    s.writeRegIdle r d =
      { s with
        ctrl := (s.writeRegIdle r d).ctrl, cfg := (s.writeRegIdle r d).cfg, rs := (s.writeRegIdle r d).rs
        pipeSym := (s.writeRegIdle r d).pipeSym, pipeStage := (s.writeRegIdle r d).pipeStage } := by
  rcases writeRegIdle_cases h s d with ⟨-, c, hs⟩ | ⟨-, rs, hs⟩ | ⟨-, cfg, hs⟩ <;> rw [hs] <;> rfl

theorem idle_writeRegIdle (h : r.implemented = some mask) (hidle : s.idle) (d : Word) : (s.writeRegIdle r d).idle := by
  rw [writeRegIdle_frame h]
  exact hidle

/-- No two registers share a field: a write to one shows in no other but `STATUS`, which shows the pipeline stage
(10_state R44, R60). -/
theorem regWord_writeRegIdle_of_ne (h : r.implemented = some mask) {q : Reg} (hne : q ≠ r) (hstatus : q ≠ .status) (d : Word) :
    (s.writeRegIdle r d).regWord q = s.regWord q := by
  cases r with
  | ctrl | inLen | symCfg | pdfGeom | maxiPostal | maxiScm | rsM | rsPoly | rsFcr | rsPrim | rsNroots | rsPad | rsSrc | rsLen
  | rsDst =>
    cases q with
    | status => exact absurd rfl hstatus
    | _ =>
      revert hne
      simp [State.writeRegIdle, State.regWord]
  | _ => simp [Reg.implemented] at h

end

/-! ### Registers of several fields -/

/-- One flag of a word is a field of one bit. -/
theorem ofBool_getLsbD (d : Word) (k : Nat) : BitVec.ofBool (d.getLsbD k) = d.extractLsb' k 1 := by
  ext j hj
  obtain rfl : j = 0 := by omega
  simp

theorem ctrl_readBack (d : Word) :
    (BitVec.ofBool (d.getLsbD 1) ++ BitVec.ofBool (d.getLsbD 0)).setWidth 32 = d &&& 0x00000003 := by
  rw [ofBool_getLsbD, ofBool_getLsbD, BitVec.extractLsb'_append_extractLsb'_eq_extractLsb' (by rfl)]
  exact setWidth_setWidth_eq_and d 2

theorem pdfGeom_readBack (d : Word) :
    (d.extractLsb' 8 8 ++ d.extractLsb' 0 8).setWidth 32 = d &&& 0x0000FFFF := by
  rw [BitVec.extractLsb'_append_extractLsb'_eq_extractLsb' (by rfl)]
  exact setWidth_setWidth_eq_and d 16

theorem maxiScm_readBack (d : Word) :
    (d.extractLsb' 14 10 ++ d.extractLsb' 4 10 ++ d.extractLsb' 0 4).setWidth 32 = d &&& 0x00FFFFFF := by
  rw [BitVec.extractLsb'_append_extractLsb'_eq_extractLsb' (by rfl),
    BitVec.extractLsb'_append_extractLsb'_eq_extractLsb' (by rfl)]
  exact setWidth_setWidth_eq_and d 24

theorem symCfg_readBack (d : Word) : (SymCfg.ofWord d).toWord = d &&& 0x00FFFF1F := by
  apply BitVec.eq_of_getLsbD_eq
  intro k hk
  simp only [SymCfg.toWord, SymCfg.ofWord, ofBool_getLsbD, BitVec.getLsbD_append, BitVec.getLsbD_extractLsb', BitVec.getLsbD_and]
  interval_cases k <;> simp

/-- The register written shows the implemented bits of the word (10_state R44 to R62, 20_memory R133). -/
theorem regWord_writeRegIdle {r : Reg} {mask : Word} (h : r.implemented = some mask) (s : State) (d : Word) :
    (s.writeRegIdle r d).regWord r = d &&& mask := by
  cases r with
  | ctrl => cases h; exact ctrl_readBack d
  | symCfg => cases h; exact symCfg_readBack d
  | pdfGeom => cases h; exact pdfGeom_readBack d
  | maxiPostal => cases h; exact BitVec.and_allOnes.symm
  | maxiScm => cases h; exact maxiScm_readBack d
  | inLen | rsM | rsPoly | rsFcr | rsPrim | rsNroots | rsPad | rsSrc | rsLen | rsDst =>
    cases h; exact setWidth_setWidth_eq_and d _
  | _ => simp [Reg.implemented] at h

/-- Settles O22: idle reads and writes are `regWord` and `writeRegIdle`, and a write leaves the SEC idle for the next read. -/
theorem registerReadBack : Obligations.RegisterReadBack := by
  intro s d hidle
  refine ⟨busRead_address_of_idle hidle, rfl, rfl, rfl, rfl, fun r mask himp => ?_, busWrite_address_of_idle hidle .status d⟩
  dsimp only
  rw [busWrite_address_of_idle hidle, busRead_address_of_idle (idle_writeRegIdle himp hidle d)]
  exact ⟨regWord_writeRegIdle himp s d, fun q hne hstatus => regWord_writeRegIdle_of_ne himp hne hstatus d,
    writeRegIdle_pipe himp s d, writeRegIdle_frame himp s d⟩

end Sys2Proof.Machine
end

section
/-! The decoder and the encoder of command words, and what the sequencer does with the word in its latch (30_encoding R160 to R164,
40_control_pipeline R203, 60_exceptions R702, R715). -/

namespace Sys2Proof

/-! ### The fields of a word -/

theorem CmdWord.toWord_ofWord (w : Word) : (CmdWord.ofWord w).toWord = w := by
  unfold CmdWord.toWord CmdWord.ofWord
  rw [BitVec.extractLsb'_append_extractLsb'_eq_extractLsb' (by rfl)]
  exact BitVec.extractLsb'_eq_self

theorem CmdWord.ofWord_toWord (c : CmdWord) : CmdWord.ofWord c.toWord = c := by
  unfold CmdWord.toWord CmdWord.ofWord
  rw [BitVec.extractLsb'_append_eq_right, BitVec.extractLsb'_append_eq_left]

/-- Opcode and reserved bits together are the whole word: no bit is in neither field (30_encoding R160). -/
theorem CmdWord.ofWord_eq_iff (w : Word) (c : CmdWord) : CmdWord.ofWord w = c ↔ w = c.toWord := by
  constructor
  · rintro rfl
    exact (CmdWord.toWord_ofWord w).symm
  · rintro rfl
    exact CmdWord.ofWord_toWord c

theorem ofWord_encode (i : Instr) : CmdWord.ofWord (encode i) = ⟨opcode i, 0⟩ := CmdWord.ofWord_toWord _

@[simp] theorem extractLsb'_op_encode (i : Instr) : (encode i).extractLsb' 0 8 = opcode i :=
  congrArg CmdWord.op (ofWord_encode i)

/-- A word is a command's word exactly when it holds the command's opcode and no reserved bit. -/
theorem eq_encode_iff (w : Word) (i : Instr) :
    w = encode i ↔ w.extractLsb' 0 8 = opcode i ∧ w.extractLsb' 8 24 = 0 := by
  rw [encode, ← CmdWord.ofWord_eq_iff, CmdWord.ofWord, CmdWord.mk.injEq]

/-! ### The opcode map -/

/-- `decodeOp` and `opcode` are the same map, read in the two directions (30_encoding R162). -/
theorem decodeOp_eq_some_iff (op : BitVec 8) (i : Instr) : decodeOp op.toNat = some i ↔ op = opcode i := by
  constructor
  · intro h
    apply BitVec.eq_of_toNat_eq
    unfold decodeOp at h
    split at h
    case h_25 => cases h
    all_goals
      cases h
      assumption
  · rintro rfl
    cases i <;> rfl

theorem Instr.mem_all (i : Instr) : i ∈ Instr.all := by
  cases i <;> decide

theorem legalOpcodes_eq_map_opcode : legalOpcodes = Instr.all.map opcode := rfl

theorem mem_legalOpcodes_iff (op : BitVec 8) : op ∈ legalOpcodes ↔ ∃ i, op = opcode i := by
  simp [legalOpcodes_eq_map_opcode, Instr.mem_all, eq_comm]

/-! ### What a word decodes to -/

/-- The word of a legal opcode is its command or has reserved bits set (30_encoding R161, second check). -/
theorem decode_of_opcode {w : Word} {i : Instr} (hop : w.extractLsb' 0 8 = opcode i) :
    decode w = if w.extractLsb' 8 24 = 0 then .command i else .reservedBits i := by
  have hmap : decodeOp (CmdWord.ofWord w).op.toNat = some i := (decodeOp_eq_some_iff _ i).2 hop
  unfold decode
  rw [hmap]
  rfl

/-- The word of a reserved opcode is rejected whatever its other bits (30_encoding R161, first check). -/
theorem decode_of_not_legal {w : Word} (hop : w.extractLsb' 0 8 ∉ legalOpcodes) : decode w = .unknownOp := by
  have hmap : decodeOp (CmdWord.ofWord w).op.toNat = none := by
    rw [Option.eq_none_iff_forall_ne_some]
    intro i hi
    exact hop ((mem_legalOpcodes_iff _).2 ⟨i, (decodeOp_eq_some_iff _ i).1 hi⟩)
  unfold decode
  rw [hmap]

/-- The two ways a word decodes: its opcode is reserved, or it is a command's (30_encoding R161 to R163). -/
theorem decode_cases (w : Word) :
    (w.extractLsb' 0 8 ∉ legalOpcodes ∧ decode w = .unknownOp) ∨
    ∃ j, w.extractLsb' 0 8 = opcode j ∧ decode w = if w.extractLsb' 8 24 = 0 then .command j else .reservedBits j := by
  by_cases hop : w.extractLsb' 0 8 ∈ legalOpcodes
  · obtain ⟨j, hj⟩ := (mem_legalOpcodes_iff _).1 hop
    exact .inr ⟨j, hj, decode_of_opcode hj⟩
  · exact .inl ⟨hop, decode_of_not_legal hop⟩

theorem decode_eq_command_iff (w : Word) (i : Instr) : decode w = .command i ↔ w = encode i := by
  rw [eq_encode_iff]
  constructor
  · intro h
    rcases decode_cases w with ⟨-, hw⟩ | ⟨j, hop, hw⟩ <;> rw [hw] at h
    · cases h
    · split at h
      next hrsv =>
        cases h
        exact ⟨hop, hrsv⟩
      next => cases h
  · rintro ⟨hop, hrsv⟩
    rw [decode_of_opcode hop, if_pos hrsv]

theorem decode_eq_reservedBits_iff (w : Word) (i : Instr) :
    decode w = .reservedBits i ↔ w.extractLsb' 0 8 = opcode i ∧ w.extractLsb' 8 24 ≠ 0 := by
  constructor
  · intro h
    rcases decode_cases w with ⟨-, hw⟩ | ⟨j, hop, hw⟩ <;> rw [hw] at h
    · cases h
    · split at h
      next => cases h
      next hrsv =>
        cases h
        exact ⟨hop, hrsv⟩
  · rintro ⟨hop, hrsv⟩
    rw [decode_of_opcode hop, if_neg hrsv]

theorem decode_encode (i : Instr) : decode (encode i) = .command i := (decode_eq_command_iff _ i).2 rfl

/-- On 32 bits the table's reading of a number is that of the word (30_encoding R164). -/
theorem decodeTableWord_toNat {w : Word} {i : Instr} (h : decode w = .command i) : decodeTableWord 32 w.toNat = some i := by
  have hw : BitVec.ofNat 32 (w.toNat % 2 ^ 32) = w := by
    rw [Nat.mod_eq_of_lt w.isLt, BitVec.ofNat_toNat, BitVec.setWidth_eq]
  unfold decodeTableWord
  rw [hw, h]

/-- Settles O1: the two fields are the whole word, and the opcode map is one-to-one. -/
theorem decodeExactlyEncoded : Obligations.DecodeExactlyEncoded := by
  intro w i
  refine ⟨decode_eq_command_iff w i, ?_, decodeTableWord_toNat (decode_encode i)⟩
  rw [decode_eq_reservedBits_iff, extractLsb'_op_encode, Ne, Ne, eq_encode_iff]
  constructor
  · rintro ⟨hop, hrsv⟩
    exact ⟨hop, fun h => hrsv h.2⟩
  · rintro ⟨hop, hne⟩
    exact ⟨hop, fun hrsv => hne ⟨hop, hrsv⟩⟩

/-- Settles O2: the seven commands are their `encode`, two opcodes are outside the map, and one word has a reserved bit. -/
theorem sampleWordsDecode : Obligations.SampleWordsDecode := by
  have command {w : Word} (i : Instr) (h : w = encode i) : decode w = .command i := (decode_eq_command_iff w i).2 h
  refine ⟨command .nop rfl, command .rsInit rfl, command .rs929Encode rfl, command .dmOptimize rfl, command .pdfLayout rfl,
    command .maxiEcc rfl, command .qrEncode rfl, decode_of_not_legal ?_, decode_of_not_legal ?_,
    (decode_eq_reservedBits_iff _ .nop).2 ?_⟩ <;> decide

end Sys2Proof

namespace Sys2Proof.Machine

/-! ### The error outcome -/

section
variable (s : State) (e : CmdError)

theorem errorOutcome_raise : ErrorOutcome s (s.raise e) e.code.number e.detail e.index := by
  constructor <;> simp

theorem keepsEngine_raise : KeepsEngine s (s.raise e) := by
  constructor <;> simp

/-- A failing `RS_INIT` has the error outcome of any command; it differs in the engine alone (41_rs_engine R243). -/
theorem errorOutcome_raiseRsInit : ErrorOutcome s (s.raiseRsInit e) e.code.number e.detail e.index := by
  constructor <;> simp

end

/-! ### The completing step -/

section
variable {s : State} {w : Word}

/-- With nothing else pending a step completes the latched word (40_control_pipeline R203). -/
theorem step_eq_runWord (hlatch : s.latch = some w) (hrst : s.rst = false) (hpending : s.pending = []) :
    step s = runWord w s := by
  simp [step, sequencerTurn, hlatch, hrst, hpending]

theorem runWord_of_command {i : Instr} (h : decode w = .command i) : runWord w s = exec i s := by
  unfold runWord
  rw [h]

theorem runWord_of_unknownOp (h : decode w = .unknownOp) : runWord w s = .next (s.raise (errorAt .illegalCmd 1)) := by
  unfold runWord
  rw [h]
  rfl

/-- Reserved bits end every command but `RS_INIT` alike (60_exceptions R702; log 14). -/
theorem runWord_of_reservedBits {i : Instr} (h : decode w = .reservedBits i) :
    runWord w s =
      .next (if i = .rsInit then s.raiseRsInit (errorAt .illegalCmd 2) else s.raise (errorAt .illegalCmd 2)) := by
  unfold runWord
  rw [h]
  exact congrArg _ (raiseIllegal_reservedBits s i)

end

/-- Settles O3: the step is `runWord` of the latched word, and the word's two fields say how it decodes. -/
theorem sequencerDecodesLatch : Obligations.SequencerDecodesLatch := by
  intro s w hlatch hrst hpending
  rw [step_eq_runWord hlatch hrst hpending]
  refine ⟨fun hop => ?_, fun i hop hrsv => ?_, fun i hop hrsv => ?_⟩
  · exact ⟨_, runWord_of_unknownOp (decode_of_not_legal hop), errorOutcome_raise s _, keepsEngine_raise s _, rfl⟩
  · refine ⟨_, runWord_of_reservedBits ((decode_eq_reservedBits_iff w i).2 ⟨hop, hrsv⟩), ?_⟩
    by_cases hi : i = .rsInit
    · simp only [if_pos hi]
      exact ⟨errorOutcome_raiseRsInit s _, rfl, rfl, rfl⟩
    · simp only [if_neg hi]
      exact ⟨errorOutcome_raise s _, rfl, keepsEngine_raise s _⟩
  · exact runWord_of_command ((decode_eq_command_iff w i).2 ((eq_encode_iff w i).2 ⟨hop, hrsv⟩))

end Sys2Proof.Machine
end

section
/-! What a command can end with (40_control_pipeline R203, R205): the frame of every rule, then one inversion of `exec` for all
commands, and the statements on the life cycle of a command that follow from it. -/

namespace Sys2Proof.Machine

/-! ### The frame of a rule -/

section
variable {s t u : State}

theorem stageFrame_iff : StageFrame s t ↔ ∃ plan cw mat outW outH res,
    t = { s with plan := plan, cw := cw, mat := mat, outW := outW, outH := outH, res := res } := by
  constructor
  · intro h
    exact ⟨_, _, _, _, _, _, h⟩
  · rintro ⟨plan, cw, mat, outW, outH, res, rfl⟩
    rfl

theorem StageFrame.refl (s : State) : StageFrame s s := rfl

theorem StageFrame.trans (hst : StageFrame s t) (htu : StageFrame t u) : StageFrame s u := by
  obtain ⟨_, _, _, _, _, _, rfl⟩ := stageFrame_iff.1 hst
  obtain ⟨_, _, _, _, _, _, rfl⟩ := stageFrame_iff.1 htu
  rfl

theorem StageFrame.done (frame : StageFrame s t) : t.done = s.done := by
  obtain ⟨_, _, _, _, _, _, rfl⟩ := stageFrame_iff.1 frame
  rfl

theorem StageFrame.err (frame : StageFrame s t) : t.err = s.err := by
  obtain ⟨_, _, _, _, _, _, rfl⟩ := stageFrame_iff.1 frame
  rfl

theorem StageFrame.cfg (frame : StageFrame s t) : t.cfg = s.cfg := by
  obtain ⟨_, _, _, _, _, _, rfl⟩ := stageFrame_iff.1 frame
  rfl

theorem StageFrame.checkConfig (frame : StageFrame s t) (sym : PipeSym) :
    Machine.checkConfig sym t = Machine.checkConfig sym s := checkConfig_congr frame.cfg sym

end

/-- A rule that writes no more than the stages do, also where it raises (40_control_pipeline R205, 60_exceptions R717). -/
def KeepsStageFrame (rule : State → CmdResult) : Prop := ∀ s : State, StageFrame s (rule s).state

theorem KeepsStageFrame.andThen {rule next : State → CmdResult} (hr : KeepsStageFrame rule) (hn : KeepsStageFrame next) :
    KeepsStageFrame fun s => (rule s).andThen next := by
  intro s
  have first := hr s
  cases hc : rule s with
  | ok t =>
    rw [hc] at first
    simpa [hc] using first.trans (hn t)
  | raised e t => simpa [hc] using first

theorem dmOptimize_keepsStageFrame (T : Tables) : KeepsStageFrame (dmOptimize T) := by
  intro s
  cases hr : dmOptimize T s with
  | ok u =>
    obtain ⟨-, modes, -, rfl⟩ := (dmOptimize_ok_iff T s u).1 hr
    rfl
  | raised e u => exact dmOptimize_raised hr ▸ StageFrame.refl s

theorem dmProduce_keepsStageFrame (T : Tables) : KeepsStageFrame (dmProduce T) := by
  intro s
  cases hr : dmProduce T s with
  | ok u =>
    obtain ⟨size, -, rfl⟩ := (dmProduce_ok_iff T s u).1 hr
    rfl
  | raised e u => exact dmProduce_raised hr ▸ StageFrame.refl s

theorem dmEcc_keepsStageFrame (T : Tables) : KeepsStageFrame (dmEcc T) := fun _ => rfl

theorem dmLayout_keepsStageFrame (T : Tables) : KeepsStageFrame (dmLayout T) := fun _ => rfl

theorem dmPipeline_keepsStageFrame (T : Tables) : KeepsStageFrame (dmPipeline T) :=
  (((dmOptimize_keepsStageFrame T).andThen (dmProduce_keepsStageFrame T)).andThen (dmEcc_keepsStageFrame T)).andThen
    (dmLayout_keepsStageFrame T)

theorem pdfOptimize_keepsStageFrame (T : Tables) : KeepsStageFrame (pdfOptimize T) := by
  intro s
  cases hr : pdfOptimize T s with
  | ok u =>
    obtain ⟨classes, -, rfl⟩ := (pdfOptimize_ok_iff T s u).1 hr
    rfl
  | raised e u => exact pdfOptimize_raised hr ▸ StageFrame.refl s

theorem pdfProduce_keepsStageFrame (T : Tables) : KeepsStageFrame (pdfProduce T) := by
  intro s
  rcases pdfProduce_cases T s with ⟨cws, m, t, z, l, hr⟩ | ⟨e, hr⟩ <;> rw [hr] <;> rfl

theorem pdfEcc_keepsStageFrame : KeepsStageFrame pdfEcc := fun _ => rfl

theorem pdfLayout_keepsStageFrame : KeepsStageFrame pdfLayout := fun _ => rfl

theorem pdfPipeline_keepsStageFrame (T : Tables) : KeepsStageFrame (pdfPipeline T) :=
  (((pdfOptimize_keepsStageFrame T).andThen (pdfProduce_keepsStageFrame T)).andThen pdfEcc_keepsStageFrame).andThen
    pdfLayout_keepsStageFrame

theorem maxiProduce_keepsStageFrame : KeepsStageFrame maxiProduce := by
  intro s
  rcases maxiProduce_cases s with ⟨cw, res, hr⟩ | ⟨e, hr⟩ <;> rw [hr] <;> rfl

theorem maxiEcc_keepsStageFrame : KeepsStageFrame maxiEcc := fun _ => rfl

theorem maxiLayout_keepsStageFrame : KeepsStageFrame maxiLayout := fun _ => rfl

theorem maxiPipeline_keepsStageFrame : KeepsStageFrame maxiPipeline :=
  (maxiProduce_keepsStageFrame.andThen maxiEcc_keepsStageFrame).andThen maxiLayout_keepsStageFrame

theorem qrProduce_keepsStageFrame (T : Tables) : KeepsStageFrame (qrProduce T) := by
  intro s
  rcases qrProduce_cases T s with ⟨cw, res, hr⟩ | ⟨e, hr⟩ <;> rw [hr] <;> rfl

theorem qrEcc_keepsStageFrame (T : Tables) : KeepsStageFrame (qrEcc T) := fun _ => rfl

theorem qrLayout_keepsStageFrame (T : Tables) : KeepsStageFrame (qrLayout T) := fun _ => rfl

theorem qrMask_keepsStageFrame : KeepsStageFrame qrMask := by
  intro s
  obtain ⟨rows, res, hr⟩ := qrMask_ok s
  rw [hr]
  rfl

theorem qrPipeline_keepsStageFrame (T : Tables) : KeepsStageFrame (qrPipeline T) :=
  (((qrProduce_keepsStageFrame T).andThen (qrEcc_keepsStageFrame T)).andThen (qrLayout_keepsStageFrame T)).andThen
    qrMask_keepsStageFrame

theorem rsEncode_keepsStageFrame : KeepsStageFrame rsEncode := by
  intro s
  rcases rsEncode_cases s with ⟨e, hr⟩ | ⟨cw, hr⟩ <;> rw [hr] <;> rfl

theorem rs929Encode_keepsStageFrame : KeepsStageFrame rs929Encode := by
  intro s
  rcases rs929Encode_cases s with ⟨e, hr⟩ | ⟨cw, hr⟩ <;> rw [hr] <;> rfl

/-! ### How a command can end -/

/-- A command other than `SOFT_RESET` and `RS_INIT`, which alone write beyond the frame of the stages (40_control_pipeline R205,
10_state R50, R63). -/
abbrev WritesInFrame (i : Instr) : Prop := i ≠ .softReset ∧ i ≠ .rsInit

/-- Every way a command can end, with the state it leaves (40_control_pipeline R203, 60_exceptions R715). -/
inductive CommandEnds (s : State) : Instr → State → Prop
  | softReset : CommandEnds s .softReset s.resetRegisters.dropTables.complete
  | initBuilds (alpha index gen : List Nat)
      (legal : checkRsParams s.rs.m.toNat s.rs.fcr.toNat s.rs.prim.toNat s.rs.nroots.toNat s.rs.pad.toNat = none) :
      CommandEnds s .rsInit (s.loadTables alpha index gen).complete
  | initFails (e : CmdError) : CommandEnds s .rsInit (s.raiseRsInit e)
  | completes {i : Instr} {u : State} (hi : WritesInFrame i) (frame : StageFrame s u) : CommandEnds s i u.complete
  | stages {i : Instr} {u : State} {sym : PipeSym} {stage : PipeStage} (hi : WritesInFrame i) (frame : StageFrame s u)
      (config : checkConfig sym s = none) (legal : legalStage sym stage = true) : CommandEnds s i (u.setPipe sym stage).complete
  | raises {i : Instr} {u : State} (hi : WritesInFrame i) (frame : StageFrame s u) (e : CmdError) : CommandEnds s i (u.raise e)

section
variable {i : Instr} {sym : PipeSym} {needs leaves : PipeStage} {rule : State → CmdResult} {s : State}

theorem finish_ends (hi : WritesInFrame i) (hr : KeepsStageFrame rule) (s : State) : CommandEnds s i (rule s).finish := by
  have frame := hr s
  cases hc : rule s with
  | ok u => exact .completes hi (by simpa [hc] using frame)
  | raised e u => exact .raises hi (by simpa [hc] using frame) e

theorem finishRsInit_ends (s : State) : CommandEnds s .rsInit (rsInit s).finishRsInit := by
  rcases rsInit_cases s with ⟨e, hr⟩ | ⟨legal, -, hr⟩ <;> rw [hr]
  · exact .initFails e
  · exact .initBuilds _ _ _ legal

theorem firstStage_ends (hi : WritesInFrame i) (hr : KeepsStageFrame rule) (legal : legalStage sym leaves = true) (s : State) :
    CommandEnds s i (firstStage sym leaves rule s) := by
  have frame := hr s
  rcases firstStage_cases sym leaves rule s with ⟨e, -, hs⟩ | ⟨-, e, u, hu, hs⟩ | ⟨config, u, hu, hs⟩ <;> rw [hs]
  · exact .raises hi (.refl s) e
  · rw [hu] at frame
    exact .raises hi frame e
  · rw [hu] at frame
    exact .stages hi frame config legal

theorem laterStage_ends (hi : WritesInFrame i) (hr : KeepsStageFrame rule) (legal : legalStage sym leaves = true) (s : State) :
    CommandEnds s i (laterStage sym needs leaves rule s) := by
  rcases laterStage_cases sym needs leaves rule s with ⟨-, hs⟩ | ⟨⟨hsym, hstage⟩, -⟩
  · rw [hs]
    exact .raises hi (.refl s) _
  · rw [laterStage_eq_firstStage hsym hstage]
    exact firstStage_ends hi hr legal s

/-- Every command ends in one of the ways of `CommandEnds`. -/
theorem exec_ends (i : Instr) (s : State) : ∃ t, exec i s = .next t ∧ CommandEnds s i t :=
  match i with
  | .nop => ⟨_, rfl, .completes (by decide) (.refl s)⟩
  | .softReset => ⟨_, rfl, .softReset⟩
  | .rsInit => ⟨_, rfl, finishRsInit_ends s⟩
  | .rsEncode => ⟨_, rfl, finish_ends (by decide) rsEncode_keepsStageFrame s⟩
  | .rs929Encode => ⟨_, rfl, finish_ends (by decide) rs929Encode_keepsStageFrame s⟩
  | .dmOptimize => ⟨_, rfl, firstStage_ends (by decide) (dmOptimize_keepsStageFrame _) rfl s⟩
  | .dmProduce => ⟨_, rfl, laterStage_ends (by decide) (dmProduce_keepsStageFrame _) rfl s⟩
  | .dmEcc => ⟨_, rfl, laterStage_ends (by decide) (dmEcc_keepsStageFrame _) rfl s⟩
  | .dmLayout => ⟨_, rfl, laterStage_ends (by decide) (dmLayout_keepsStageFrame _) rfl s⟩
  | .dmEncode => ⟨_, rfl, firstStage_ends (by decide) (dmPipeline_keepsStageFrame _) rfl s⟩
  | .pdfOptimize => ⟨_, rfl, firstStage_ends (by decide) (pdfOptimize_keepsStageFrame _) rfl s⟩
  | .pdfProduce => ⟨_, rfl, laterStage_ends (by decide) (pdfProduce_keepsStageFrame _) rfl s⟩
  | .pdfEcc => ⟨_, rfl, laterStage_ends (by decide) pdfEcc_keepsStageFrame rfl s⟩
  | .pdfLayout => ⟨_, rfl, laterStage_ends (by decide) pdfLayout_keepsStageFrame rfl s⟩
  | .pdfEncode => ⟨_, rfl, firstStage_ends (by decide) (pdfPipeline_keepsStageFrame _) rfl s⟩
  | .maxiProduce => ⟨_, rfl, firstStage_ends (by decide) maxiProduce_keepsStageFrame rfl s⟩
  | .maxiEcc => ⟨_, rfl, laterStage_ends (by decide) maxiEcc_keepsStageFrame rfl s⟩
  | .maxiLayout => ⟨_, rfl, laterStage_ends (by decide) maxiLayout_keepsStageFrame rfl s⟩
  | .maxiEncode => ⟨_, rfl, firstStage_ends (by decide) maxiPipeline_keepsStageFrame rfl s⟩
  | .qrProduce => ⟨_, rfl, firstStage_ends (by decide) (qrProduce_keepsStageFrame _) rfl s⟩
  | .qrEcc => ⟨_, rfl, laterStage_ends (by decide) (qrEcc_keepsStageFrame _) rfl s⟩
  | .qrLayout => ⟨_, rfl, laterStage_ends (by decide) (qrLayout_keepsStageFrame _) rfl s⟩
  | .qrMask => ⟨_, rfl, laterStage_ends (by decide) qrMask_keepsStageFrame rfl s⟩
  | .qrEncode => ⟨_, rfl, firstStage_ends (by decide) (qrPipeline_keepsStageFrame _) rfl s⟩

theorem commandEnds_of_exec {t : State} (h : exec i s = .next t) : CommandEnds s i t := by
  obtain ⟨u, hu, ends⟩ := exec_ends i s
  rw [hu] at h
  injection h with h
  exact h ▸ ends

end

/-- Settles O15: a completion sets `DONE` and leaves `ERR` and the error registers, an error sets `ERR` and leaves `DONE`. -/
theorem exactlyOneOfDoneAndErr : Obligations.ExactlyOneOfDoneAndErr := by
  intro i s t hdone herr hexec
  cases commandEnds_of_exec hexec with
  | softReset => exact ⟨rfl, rfl, fun _ hi => absurd rfl hi⟩
  | initBuilds => exact ⟨rfl, by simp [herr], fun _ _ => ⟨rfl, rfl, rfl⟩⟩
  | initFails e => exact ⟨rfl, by simp [hdone], fun h => by simp [hdone] at h⟩
  | completes hi frame =>
    obtain ⟨_, _, _, _, _, _, rfl⟩ := stageFrame_iff.1 frame
    exact ⟨rfl, by simp [herr], fun _ _ => ⟨rfl, rfl, rfl⟩⟩
  | stages hi frame =>
    obtain ⟨_, _, _, _, _, _, rfl⟩ := stageFrame_iff.1 frame
    exact ⟨rfl, by simp [herr], fun _ _ => ⟨rfl, rfl, rfl⟩⟩
  | raises hi frame e =>
    obtain ⟨_, _, _, _, _, _, rfl⟩ := stageFrame_iff.1 frame
    exact ⟨rfl, by simp [hdone], fun h => by simp [hdone] at h⟩

/-- Settles O16: neither an end of a command nor the frame of a rule holds a write of these fields. -/
theorem commandFrame : Obligations.CommandFrame := by
  intro i s t hexec
  cases commandEnds_of_exec hexec with
  | softReset => exact ⟨fun _ => rfl, rfl, rfl, rfl, fun hi => absurd rfl hi, fun hi => absurd rfl hi⟩
  | initBuilds | initFails =>
    exact ⟨fun _ => rfl, rfl, rfl, rfl, fun _ => ⟨rfl, rfl, rfl, rfl, rfl⟩, fun _ hi => absurd rfl hi⟩
  | completes hi frame | stages hi frame | raises hi frame =>
    obtain ⟨_, _, _, _, _, _, rfl⟩ := stageFrame_iff.1 frame
    exact ⟨fun _ => rfl, rfl, rfl, rfl, fun _ => ⟨rfl, rfl, rfl, rfl, rfl⟩, fun _ _ => ⟨rfl, rfl, rfl, rfl, rfl⟩⟩

end Sys2Proof.Machine
end

section
/-! Every step keeps the status, the pipeline and the RS engine consistent (10_state R48, R63, 40_control_pipeline R201, R210,
60_exceptions R711): the fields the invariant reads, what each operation does to them, the commands, the bus and the events. -/

namespace Sys2Proof.Machine

/-- `t` has what `State.StatusWf` reads as `s` has it. -/
def SameStatus (s t : State) : Prop :=
  t = { t with
    done := s.done, err := s.err, errCode := s.errCode, errDetail := s.errDetail, errIndex := s.errIndex, latch := s.latch
    pipeSym := s.pipeSym, pipeStage := s.pipeStage, cfg := s.cfg, rsReady := s.rsReady, act := s.act }

section
variable {s t : State}

theorem State.StatusWf.of_same (h : s.StatusWf) (same : SameStatus s t) : t.StatusWf := by
  rw [same]
  exact ⟨h.stage, fun hsym => (checkConfig_congr rfl _).trans (h.config hsym), h.outcome, h.running, h.rsIdle, h.rsActive⟩

theorem StageFrame.sameStatus (frame : StageFrame s t) : SameStatus s t := by
  obtain ⟨_, _, _, _, _, _, rfl⟩ := stageFrame_iff.1 frame
  rfl

/-! ### The registers and the life cycle of a command -/

/-- With no pipeline in progress there is no configuration to keep legal (10_state R60). -/
theorem State.StatusWf.clearPipe (h : s.StatusWf) : s.clearPipe.StatusWf :=
  ⟨rfl, fun hsym => absurd rfl hsym, h.outcome, h.running, h.rsIdle, h.rsActive⟩

/-- A write to a configuration register may leave an illegal configuration, and no pipeline in progress (10_state R60). -/
theorem State.StatusWf.writeCfg (h : s.StatusWf) (c : CfgRegs) : (s.writeCfg c).StatusWf :=
  ⟨rfl, fun hsym => absurd rfl hsym, h.outcome, h.running, h.rsIdle, h.rsActive⟩

theorem State.StatusWf.accept (h : s.StatusWf) (w : Word) : (s.accept w).StatusWf where
  stage := h.stage
  config hsym := (checkConfig_congr rfl _).trans (h.config hsym)
  outcome := by simp
  running _ := ⟨rfl, rfl, rfl, rfl, rfl⟩
  rsIdle := h.rsIdle
  rsActive := h.rsActive

/-- Clearing `DONE` or `ERR` sets neither (10_state R46). -/
theorem State.StatusWf.writeStatus (h : s.StatusWf) (d : Word) : (s.writeStatus d).StatusWf where
  stage := h.stage
  config hsym := (checkConfig_congr rfl _).trans (h.config hsym)
  outcome := by
    have := h.outcome
    simp only [State.writeStatus, Bool.and_eq_true]
    tauto
  running hbusy := by
    obtain ⟨hdone, herr, hcode, hdetail, hindex⟩ := h.running hbusy
    exact ⟨by simp [State.writeStatus, hdone], by simp [State.writeStatus, herr], hcode, hdetail, hindex⟩
  rsIdle := h.rsIdle
  rsActive := h.rsActive

theorem State.hardReset_statusWf (s : State) : s.hardReset.StatusWf :=
  ⟨rfl, fun hsym => absurd rfl hsym, by simp, nofun, fun _ => rfl, nofun⟩

/-! ### The ends of a command -/

/-- Without an earlier error a completion is the only outcome (10_state R48). -/
theorem State.StatusWf.complete (h : s.StatusWf) (herr : s.err = false) : s.complete.StatusWf :=
  ⟨h.stage, fun hsym => (checkConfig_congr rfl _).trans (h.config hsym), by simp [herr], nofun, h.rsIdle, h.rsActive⟩

theorem State.StatusWf.setPipe (h : s.StatusWf) {sym : PipeSym} {stage : PipeStage} (legal : legalStage sym stage = true)
    (config : checkConfig sym s = none) : (s.setPipe sym stage).StatusWf :=
  ⟨legal, fun _ => (checkConfig_congr rfl _).trans config, h.outcome, h.running, h.rsIdle, h.rsActive⟩

theorem State.StatusWf.raise (h : s.StatusWf) (hdone : s.done = false) (e : CmdError) : (s.raise e).StatusWf :=
  ⟨rfl, fun hsym => absurd rfl hsym, by simp [hdone], nofun, h.rsIdle, h.rsActive⟩

/-- A failing `RS_INIT` leaves the engine not ready (41_rs_engine R243). -/
theorem State.StatusWf.raiseRsInit (h : s.StatusWf) (hdone : s.done = false) (e : CmdError) : (s.raiseRsInit e).StatusWf :=
  ⟨rfl, fun hsym => absurd rfl hsym, (h.raise hdone e).outcome, nofun, fun _ => rfl, nofun⟩

theorem State.softReset_statusWf (s : State) : s.resetRegisters.dropTables.complete.StatusWf :=
  ⟨rfl, fun hsym => absurd rfl hsym, by simp, nofun, fun _ => rfl, nofun⟩

/-- `RS_INIT` copies the parameters it checked (41_rs_engine R240, R241). -/
theorem State.StatusWf.loadTables (h : s.StatusWf)
    (legal : checkRsParams s.rs.m.toNat s.rs.fcr.toNat s.rs.prim.toNat s.rs.nroots.toNat s.rs.pad.toNat = none)
    (alpha index gen : List Nat) : (s.loadTables alpha index gen).StatusWf :=
  ⟨h.stage, fun hsym => (checkConfig_congr rfl _).trans (h.config hsym), h.outcome, h.running, nofun, fun _ => legal⟩

theorem CommandEnds.statusWf {i : Instr} (ends : CommandEnds s i t) (h : s.StatusWf) (hbusy : s.busy = true) : t.StatusWf := by
  obtain ⟨hdone, herr, -⟩ := h.running hbusy
  cases ends with
  | softReset => exact s.softReset_statusWf
  | initBuilds alpha index gen legal => exact (h.loadTables legal alpha index gen).complete herr
  | initFails e => exact h.raiseRsInit hdone e
  | completes hi frame => exact (h.of_same frame.sameStatus).complete (frame.err.trans herr)
  | stages hi frame config legal =>
    exact ((h.of_same frame.sameStatus).setPipe legal ((frame.checkConfig _).trans config)).complete (frame.err.trans herr)
  | raises hi frame e => exact (h.of_same frame.sameStatus).raise (frame.done.trans hdone) e

end

/-! ### The sequencer, the bus and the events -/

/-- Whatever state the outcome goes on with has a consistent status. -/
def NextStatusWf (o : Host.Outcome State Fault Refusal) : Prop := ∀ t, o = .next t → t.StatusWf

theorem State.StatusWf.next {t : State} (h : t.StatusWf) : NextStatusWf (.next t) := by
  intro u hu
  injection hu with hu
  exact hu ▸ h

section
variable {s : State}

theorem sequencerTurn_statusWf (h : s.StatusWf) : NextStatusWf (sequencerTurn s) := by
  rcases sequencerTurn_cases s with ⟨-, hs⟩ | ⟨w, hlatch, -, hs⟩ <;> rw [hs]
  · exact h.next
  · have hbusy : s.busy = true := by simp [State.busy, hlatch]
    have hdone : s.done = false := (h.running hbusy).1
    rcases runWord_cases w s with ⟨i, -, hw⟩ | ⟨-, hw⟩ | ⟨-, hw⟩ | ⟨i, -, -, hw⟩ <;> rw [hw]
    · exact fun t ht => (commandEnds_of_exec ht).statusWf h hbusy
    · exact (h.raise hdone _).next
    · exact (h.raiseRsInit hdone _).next
    · exact (h.raise hdone _).next

theorem State.StatusWf.hostRead (h : s.StatusWf) (a : Address) (be : ByteEnable) : (s.hostRead a be).StatusWf := by
  have same : SameStatus s (s.hostRead a be) := by
    unfold State.hostRead
    rcases busRead_state_cases s a be with hs | hs | hs <;> simp only [hs] <;> rfl
  exact h.of_same same

theorem State.StatusWf.hostPoll (h : s.StatusWf) (polls : Nat) : (s.hostPoll polls).StatusWf := by
  obtain ⟨events, hp⟩ := hostPoll_frame s polls
  rw [hp]
  exact (h.hostRead Reg.status.address 0b1111).of_same rfl

theorem State.StatusWf.driveRst (h : s.StatusWf) (level : Bool) : (s.driveRst level).StatusWf := by
  unfold State.driveRst
  split
  · exact h.of_same rfl
  · split
    · exact s.hardReset_statusWf
    · exact h

theorem State.StatusWf.writeRegBusy (h : s.StatusWf) (r : Reg) (d : Word) : (s.writeRegBusy r d).StatusWf := by
  cases r with
  | status => exact h.writeStatus d
  | _ => exact h.of_same rfl

theorem State.StatusWf.writeRegIdle (h : s.StatusWf) (r : Reg) (d : Word) : (s.writeRegIdle r d).StatusWf := by
  cases r with
  | status => exact h.writeStatus d
  | cmd => exact h.accept d
  | inLen | symCfg | pdfGeom | maxiPostal | maxiScm => exact h.writeCfg _
  | _ => exact h.of_same rfl

theorem State.StatusWf.busWrite (h : s.StatusWf) (a : Address) (be : ByteEnable) (d : Word) :
    (s.busWrite a be d).StatusWf := by
  rcases busWrite_cases s a be d with hs | hs | ⟨r, hs⟩ | ⟨r, hs⟩ | ⟨i, hs⟩ | ⟨i, hs⟩ <;> rw [hs]
  · exact h
  · exact h.of_same rfl
  · exact h.writeRegBusy r d
  · exact h.writeRegIdle r d
  · have written : State.StatusWf { s with inBuf := s.inBuf.set i (d.setWidth 8) } := h.of_same rfl
    exact written.clearPipe
  · exact h.of_same rfl

theorem runEvent_statusWf (h : s.StatusWf) (e : Event) : NextStatusWf (runEvent e s) :=
  match e with
  | .read a be => (h.hostRead a be).next
  | .write a be d => (h.busWrite a be d).next
  | .sequencer => sequencerTurn_statusWf h
  | .rst level => (h.driveRst level).next
  | .poll polls => (h.hostPoll polls).next

end

/-- Settles O7: a command runs only while `BUSY = 1`, when `DONE` and `ERR` are 0, and ends in one of the ways of `CommandEnds`; every
other event keeps what the invariant reads, or clears it. -/
theorem stepKeepsStatusWf : Obligations.StepKeepsStatusWf := by
  intro s t h hstep
  rcases step_cases s with ⟨-, hs⟩ | ⟨e, rest, -, hs⟩ <;> rw [hs] at hstep
  · exact sequencerTurn_statusWf h t hstep
  · have popped : State.StatusWf { s with pending := rest } := h.of_same rfl
    exact runEvent_statusWf popped e t hstep

end Sys2Proof.Machine
end

section
/-! The acceptance of a command, the step that runs it, the control commands and the sequence check (40_control_pipeline R201 to R203,
R210, R211, R220, R221). -/

namespace Sys2Proof.Machine

/-! ### Acceptance and the sequencer's turn -/

section
variable {s : State} {w : Word} {i : Instr}

/-- The sequencer's turn runs the command in the latch (40_control_pipeline R203). -/
theorem sequencerTurn_of_command (hlatch : s.latch = some w) (hdecode : decode w = .command i) (hrst : s.rst = false) :
    sequencerTurn s = exec i s := by
  rw [← runWord_of_command hdecode]
  simp [sequencerTurn, hlatch, hrst]

theorem step_of_nothing_pending (h : s.pending = []) : step s = sequencerTurn s := by
  simp [step, h]

theorem step_of_sequencer_pending {rest : List Event} (h : s.pending = .sequencer :: rest) :
    step s = sequencerTurn { s with pending := rest } := by
  simp [step, h, runEvent]

/-- The next step of `withFetchWord` is the sequencer's turn on the word just accepted (log 1). -/
theorem step_withFetchWord (u : State) {v : Nat} (hv : v < 2 ^ 32) :
    step (u.withFetchWord 32 v) = sequencerTurn { u.accept (BitVec.ofNat 32 v) with rst := false } := by
  rw [step_of_sequencer_pending rfl, State.withFetchWord, Nat.mod_eq_of_lt hv]
  rfl

end

/-- Settles O4: each of the three steps is the sequencer's turn on a state whose latch holds the command's word. -/
theorem stepRunsDecodedCommand : Obligations.StepRunsDecodedCommand := by
  intro s w i hlatch hdecode hrst
  refine ⟨fun hpending => ?_, fun rest hpending => ?_, fun u v hv hword => ?_⟩
  · rw [step_of_nothing_pending hpending, sequencerTurn_of_command hlatch hdecode hrst]
  · rw [step_of_sequencer_pending hpending]
    exact sequencerTurn_of_command hlatch hdecode hrst
  · rw [step_withFetchWord u hv, sequencerTurn_of_command rfl hword rfl]

/-- Settles O14: `CMD` is a register, so idle the write is `accept` and busy it is `rejectCommand`. -/
theorem acceptOrReject : Obligations.AcceptOrReject := by
  intro s w hrst
  refine ⟨fun hlatch => ?_, fun hlatch => ?_⟩
  · exact busWrite_address_of_idle ⟨hlatch, hrst⟩ .cmd w
  · exact busWrite_address_of_busy hrst (State.busy_of_latch hlatch) .cmd w

/-! ### The control commands -/

/-- Settles O12: `NOP` is a completion and nothing else. -/
theorem nopCompletes : Obligations.NopCompletes := fun _ => rfl

/-- Settles O13: `SOFT_RESET` completes after `resetRegisters`, which keeps every buffer, and `dropTables`, which draws the tables. -/
theorem softResetCompletes : Obligations.SoftResetCompletes := by
  intro s
  refine ⟨_, exec_softReset s, rfl, Nat.lt_succ_self _, fun _ => rfl, fun _ => rfl, fun _ => rfl, fun _ => rfl, ?_, ?_, ?_⟩ <;>
    exact fun k => Buffer.get_unspecified _ k

/-! ### The sequence check -/

/-- A command that does no more than raise ends in the error outcome and writes nothing else (60_exceptions R715). -/
theorem raisesError_of_exec {i : Instr} {s : State} {e : CmdError} (h : exec i s = .next (s.raise e)) :
    RaisesError i s e.code.number e.detail e.index :=
  ⟨_, h, errorOutcome_raise s e, keepsEngine_raise s e, rfl⟩

/-- The commands that need a stage, with their symbology and the stage they need (40_control_pipeline R210). -/
def laterStages : List (Instr × PipeSym × PipeStage) :=
  [(.dmProduce, .dm, .planned), (.dmEcc, .dm, .produced), (.dmLayout, .dm, .protectedCw),
   (.pdfProduce, .pdf, .planned), (.pdfEcc, .pdf, .produced), (.pdfLayout, .pdf, .protectedCw),
   (.maxiEcc, .maxi, .produced), (.maxiLayout, .maxi, .protectedCw),
   (.qrEcc, .qr, .produced), (.qrLayout, .qr, .protectedCw), (.qrMask, .qr, .placed)]

/-- Each of them is a `laterStage` of that symbology and stage. -/
theorem exec_eq_laterStage {i : Instr} {sym : PipeSym} {needs : PipeStage} (h : (i, sym, needs) ∈ laterStages) :
    ∃ leaves rule, ∀ s, exec i s = .next (laterStage sym needs leaves rule s) := by
  cases i with
  | dmProduce | dmEcc | dmLayout | pdfProduce | pdfEcc | pdfLayout | maxiEcc | maxiLayout | qrEcc | qrLayout | qrMask =>
    obtain ⟨rfl, rfl⟩ : _ = sym ∧ _ = needs := by simpa [laterStages, eq_comm] using h
    exact ⟨_, _, fun _ => rfl⟩
  | _ => simp [laterStages] at h

theorem laterStage_of_wrong_stage {sym : PipeSym} {needs : PipeStage} {s : State}
    (wrong : ¬ (s.pipeSym = sym ∧ s.pipeStage = needs)) (leaves : PipeStage) (rule : State → CmdResult) :
    laterStage sym needs leaves rule s = s.raise (errorAt .sequence 0) := by
  rcases laterStage_cases sym needs leaves rule s with ⟨-, hs⟩ | ⟨place, -⟩
  · exact hs
  · exact absurd place wrong

/-- Settles O18: the sequence check comes first in every later stage, before the configuration and the rule. -/
theorem sequenceCheck : Obligations.SequenceCheck := by
  intro s i sym needs hi wrong
  obtain ⟨leaves, rule, hexec⟩ := exec_eq_laterStage hi
  have raises : exec i s = .next (s.raise (errorAt .sequence 0)) := by rw [hexec, laterStage_of_wrong_stage wrong]
  exact raisesError_of_exec raises

end Sys2Proof.Machine
end

section
/-! The whole-pipeline commands are their stages (40_control_pipeline R230 to R234): a plan stands in `PLAN` as the optimizer made it,
no rule sees the end of the stage before it, and so the commands one after another and the pipeline leave the same state. -/

namespace Sys2Proof.Machine

/-! ### A plan has one code for each byte -/

theorem length_dmBackward (T : Tables) (gs1 : Bool) (bytes : List Nat) :
    (dmBackward T gs1 bytes).length = bytes.length + 1 := by
  induction bytes with
  | nil => rfl
  | cons b rest ih => simp [dmBackward, ih]

theorem length_dmForward (T : Tables) (rows : List DmRow) (cur : DmMode) (skip : Nat) :
    (dmForward T rows cur skip).length = rows.length - 1 := by
  induction rows generalizing cur skip with
  | nil => rfl
  | cons row rest ih =>
    cases rest with
    | nil => rfl
    | cons next rest =>
      cases skip with
      | zero => simp [dmForward, ih]
      | succ k => simp [dmForward, ih]

theorem length_dmAutoPlan (T : Tables) (gs1 : Bool) (bytes : List Nat) : (dmAutoPlan T gs1 bytes).length = bytes.length := by
  simp [dmAutoPlan, length_dmForward, length_dmBackward]

theorem length_prefixPlan (m : DmMode) {last n : Nat} (h : last ≤ n) : (prefixPlan m last n).length = n := by
  simp [prefixPlan]
  omega

/-- The part of a message whose values fill whole triples is no longer than the message (42_dm_optimizer R302). -/
theorem dmTriplePrefix_le (T : Tables) (m : DmMode) (bytes : List Nat) (k tot last : Nat) (h : last ≤ k) :
    dmTriplePrefix T m bytes k tot last ≤ k + bytes.length := by
  induction bytes generalizing k tot last with
  | nil => simpa [dmTriplePrefix] using h
  | cons b rest ih =>
    have step := ih (k + 1) (tot + (dmValues T m b).length)
      (if (tot + (dmValues T m b).length) % 3 = 0 then k + 1 else last) (by split <;> omega)
    rw [List.length_cons, dmTriplePrefix]
    omega

theorem length_of_dmForcedPlan {T : Tables} {m : DmMode} {bytes : List Nat} {modes : List DmMode}
    (h : dmForcedPlan T m bytes = .ok modes) : modes.length = bytes.length := by
  have triples := dmTriplePrefix_le T m bytes 0 0 0 (Nat.le_refl 0)
  cases m with
  | ascii | base256 =>
    cases h
    simp
  | c40 | text =>
    cases h
    exact length_prefixPlan _ (by omega)
  | x12 | edifact =>
    simp only [dmForcedPlan] at h
    split at h <;> cases h
    exact length_prefixPlan _ (by omega)

theorem length_of_dmPlan {T : Tables} {gs1 : Bool} {mode : Nat} {bytes : List Nat} {modes : List DmMode}
    (h : dmPlan T gs1 mode bytes = .ok modes) : modes.length = bytes.length := by
  unfold dmPlan at h
  split at h
  · cases h
    exact length_dmAutoPlan T gs1 bytes
  · exact length_of_dmForcedPlan h

/-- The number of bytes that a chunk list stands for. -/
def pdfTotal (chunks : List PdfChunk) : Nat := (chunks.map Prod.snd).sum

theorem length_pdfExpand (chunks : List PdfChunk) : (pdfExpand chunks).length = pdfTotal chunks := by
  simp [pdfExpand, pdfTotal, List.length_flatMap]

theorem pdfTotal_pdfJoin (c : PdfChunk) (chunks : List PdfChunk) : pdfTotal (pdfJoin c chunks) = c.2 + pdfTotal chunks := by
  cases chunks with
  | nil => rfl
  | cons d rest =>
    simp only [pdfJoin]
    split <;> simp [pdfTotal, Nat.add_assoc]

theorem pdfTotal_pdfMerge (chunks : List PdfChunk) : pdfTotal (pdfMerge chunks) = pdfTotal chunks := by
  induction chunks with
  | nil => rfl
  | cons c rest ih =>
    have joined : pdfMerge (c :: rest) = pdfJoin c (pdfMerge rest) := rfl
    rw [joined, pdfTotal_pdfJoin, ih]
    simp [pdfTotal]

/-- A conversion keeps the length of the chunk it converts (43_pdf417_optimizer R334). -/
theorem pdfTotal_set {chunks : List PdfChunk} {i len : Nat} {c : PdfClass} (h : chunks[i]? = some (c, len)) (d : PdfClass) :
    pdfTotal (chunks.set i (d, len)) = pdfTotal chunks := by
  obtain ⟨hi, hc⟩ := List.getElem?_eq_some_iff.1 h
  have same : (chunks.map Prod.snd)[i]'(by simpa using hi) = len := by simp [hc]
  rw [pdfTotal, List.map_set, ← same, List.set_getElem_self]
  rfl

theorem pdfTotal_pdfPass (T : Tables) (kind : PdfClass) (fuel : Nat) (chunks : List PdfChunk) (i : Nat) :
    pdfTotal (pdfPass T kind fuel chunks i) = pdfTotal chunks := by
  induction fuel generalizing chunks i with
  | zero => rfl
  | succ fuel ih =>
    unfold pdfPass
    split
    · rfl
    next c len hc =>
      split
      · rw [ih, pdfTotal_pdfMerge, pdfTotal_set hc]
      · exact ih _ _

theorem length_pdfAutoPlan (T : Tables) (bytes : List Nat) : (pdfAutoPlan T bytes).length = bytes.length := by
  have units : pdfTotal (bytes.map fun b => (pdfClass b, 1)) = bytes.length := by simp [pdfTotal, Function.comp_def]
  rw [pdfAutoPlan, length_pdfExpand, pdfOptimizeChunks, pdfTotal_pdfPass, pdfTotal_pdfPass, pdfChunks, pdfTotal_pdfMerge, units]

theorem length_of_pdfForcedPlan {f : PdfClass} {bytes : List Nat} {classes : List PdfClass}
    (h : pdfForcedPlan f bytes = .ok classes) : classes.length = bytes.length := by
  cases f with
  | byte =>
    cases h
    simp
  | numeric | text =>
    simp only [pdfForcedPlan] at h
    split at h <;> cases h
    simp

theorem length_of_pdfPlan {T : Tables} {mode : Nat} {bytes : List Nat} {classes : List PdfClass}
    (h : pdfPlan T mode bytes = .ok classes) : classes.length = bytes.length := by
  unfold pdfPlan at h
  split at h
  · cases h
    exact length_pdfAutoPlan T bytes
  · exact length_of_pdfForcedPlan h

/-! ### The produce stage reads the plan that the optimize stage stored -/

theorem Buffer.take_nats {base size width : Nat} (b : Buffer base size width) (i n m : Nat) :
    (b.nats i (n + m)).take n = b.nats i n := by
  simp [Buffer.nats, Buffer.range_eq, ← List.map_take, List.take_range]

theorem State.length_message (s : State) : s.message.length = s.n := Buffer.nats_length _ _ _

/-- `PLAN[0..n)` reads back as the codes stored (10_state R77). -/
theorem State.plan_storePlan {s : State} {codes : List Nat} (length : codes.length = s.n) (fits : s.n ≤ Config.inMax)
    (codesFit : ∀ c ∈ codes, c < 2 ^ 4) : (s.storePlan codes).plan.nats 0 s.n = codes := by
  have bound : 0 + (codes ++ [planSentinel]).length ≤ 4097 := by
    have : Config.inMax = 4096 := rfl
    rw [List.length_append, List.length_singleton]
    omega
  have whole := Buffer.nats_writeNats s.plan 0 (codes ++ [planSentinel]) bound (by
    intro c hc
    rcases List.mem_append.1 hc with hc | hc
    · exact codesFit c hc
    · simp [List.mem_singleton.1 hc, planSentinel])
  rw [List.length_append] at whole
  rw [State.storePlan_plan, ← length, ← Buffer.take_nats _ 0 codes.length, whole, List.take_left]

theorem DmMode.code_lt (m : DmMode) : m.code < 2 ^ 4 := by cases m <;> decide

theorem PdfClass.code_lt (c : PdfClass) : c.code < 2 ^ 4 := by cases c <;> decide

section
variable {s : State}

theorem dmEmitted_storePlan {T : Tables} {modes : List DmMode} (h : dmPlan T s.gs1 s.mode s.message = .ok modes)
    (fits : s.n ≤ Config.inMax) :
    (s.storePlan (modes.map DmMode.code)).dmEmitted T = dmSegments T s.gs1 (modes.map DmMode.code) s.message := by
  have stored : (s.storePlan (modes.map DmMode.code)).plan.nats 0 s.n = modes.map DmMode.code :=
    State.plan_storePlan (by rw [List.length_map, length_of_dmPlan h, s.length_message]) fits
      (List.forall_mem_map.2 fun m _ => m.code_lt)
  exact congrArg (fun codes => dmSegments T s.gs1 codes s.message) stored

theorem pdfMsg_storePlan {T : Tables} {classes : List PdfClass} (h : pdfPlan T s.mode s.message = .ok classes)
    (fits : s.n ≤ Config.inMax) :
    (s.storePlan (classes.map PdfClass.code)).pdfMsg T = pdfMessage T (classes.map PdfClass.code) s.message := by
  have stored : (s.storePlan (classes.map PdfClass.code)).plan.nats 0 s.n = classes.map PdfClass.code :=
    State.plan_storePlan (by rw [List.length_map, length_of_pdfPlan h, s.length_message]) fits
      (List.forall_mem_map.2 fun c _ => c.code_lt)
  exact congrArg (fun codes => pdfMessage T codes s.message) stored

/-! ### When a produce stage succeeds -/

theorem pdfProduceMicro_ok_iff (T : Tables) (s u : State) :
    pdfProduceMicro T s = .ok u ↔ ∃ v, microVariant s.geomRows s.geomCols (s.pdfMsg T).length = .ok v ∧
      u = s.produced (padTo v.cap (s.pdfMsg T)) (s.pdfMsg T).length (v.cols * v.rows) (v.rows + 256 * v.cols) 0 0 := by
  unfold pdfProduceMicro
  simp only
  cases microVariant s.geomRows s.geomCols (s.pdfMsg T).length with
  | error e => simp
  | ok v => simp [eq_comm]

theorem pdfProduceFull_ok_iff (T : Tables) (s u : State) :
    pdfProduceFull T s = .ok u ↔
      let d := (s.pdfMsg T).length + 1
      let level := pdfLevel T s.ecl d
      let e := 2 ^ (level + 1)
      ∃ rc, pdfGeometry s.geomRows s.geomCols (d + e) = .ok rc ∧
        u = s.produced (padTo (rc.1 * rc.2 - e) ((rc.1 * rc.2 - e) :: s.pdfMsg T)) d (rc.1 * rc.2) (rc.1 + 256 * rc.2) level 0 := by
  unfold pdfProduceFull
  simp only
  cases pdfGeometry s.geomRows s.geomCols
    ((s.pdfMsg T).length + 1 + 2 ^ (pdfLevel T s.ecl ((s.pdfMsg T).length + 1) + 1)) with
  | error e => simp
  | ok rc => simp [eq_comm]

/-- The first two stages of Data Matrix, where the message can be planned and fits (42_dm_optimizer R303, 44_dm_producer R361). -/
theorem dmOptimize_dmProduce_ok {T : Tables} {modes : List DmMode} {size : Nat} (hn : s.n ≤ Config.maxByteCount)
    (hplan : dmPlan T s.gs1 s.mode s.message = .ok modes)
    (hselect : dmSelect T s.size (dmSegments T s.gs1 (modes.map DmMode.code) s.message).out.length = .ok size) :
    ∃ plan cw res res', dmOptimize T s = .ok { s with plan := plan, res := res } ∧
      dmProduce T { s with plan := plan, res := res } = .ok { s with plan := plan, cw := cw, res := res' } ∧
      res'.selSize = BitVec.ofNat 16 size := by
  have hinMax : s.n ≤ Config.inMax := le_trans hn (by decide)
  have optimized := (dmOptimize_ok_iff T s _).2 ⟨hn, modes, hplan, rfl⟩
  rw [← dmEmitted_storePlan hplan hinMax] at hselect
  have produced := (dmProduce_ok_iff T (s.storePlan (modes.map DmMode.code)) _).2 ⟨size, hselect, rfl⟩
  exact ⟨_, _, _, _, optimized, produced, rfl⟩

/-- The first two stages of PDF417, where the message can be planned and a variant or a geometry holds it (43_pdf417_optimizer R330,
45_pdf417_producer R429, R432). -/
theorem pdfOptimize_pdfProduce_ok {T : Tables} {classes : List PdfClass} (hn : s.n ≤ Config.inMax)
    (hplan : pdfPlan T s.mode s.message = .ok classes)
    (micro : s.micro = true → ∃ v, microVariant s.geomRows s.geomCols
      (pdfMessage T (classes.map PdfClass.code) s.message).length = .ok v)
    (full : s.micro = false → ∃ rc, pdfGeometry s.geomRows s.geomCols
      ((pdfMessage T (classes.map PdfClass.code) s.message).length + 1 +
        2 ^ (pdfLevel T s.ecl ((pdfMessage T (classes.map PdfClass.code) s.message).length + 1) + 1)) = .ok rc) :
    ∃ plan cw res res', pdfOptimize T s = .ok { s with plan := plan, res := res } ∧
      pdfProduce T { s with plan := plan, res := res } = .ok { s with plan := plan, cw := cw, res := res' } := by
  have optimized := (pdfOptimize_ok_iff T s _).2 ⟨classes, hplan, rfl⟩
  rw [← pdfMsg_storePlan hplan hn] at micro full
  cases hmicro : s.micro with
  | true =>
    obtain ⟨v, hv⟩ := micro hmicro
    have produced : pdfProduce T (s.storePlan (classes.map PdfClass.code)) = _ :=
      (if_pos hmicro).trans ((pdfProduceMicro_ok_iff T _ _).2 ⟨v, hv, rfl⟩)
    exact ⟨_, _, _, _, optimized, produced⟩
  | false =>
    obtain ⟨rc, hrc⟩ := full hmicro
    have produced : pdfProduce T (s.storePlan (classes.map PdfClass.code)) = _ :=
      (if_neg (Bool.eq_false_iff.1 hmicro)).trans ((pdfProduceFull_ok_iff T _ _).2 ⟨rc, hrc, rfl⟩)
    exact ⟨_, _, _, _, optimized, produced⟩

theorem maxiProduce_ok {msg : List Nat} (h : maxiCodewords s.cfg.symCfg.maxiLcReject s.message = .ok msg)
    (fits : msg.length ≤ maxiCapacity s.size) : ∃ cw res, maxiProduce s = .ok { s with cw := cw, res := res } := by
  unfold maxiProduce
  simp only [h, if_neg (Nat.not_lt.2 fits)]
  exact ⟨_, _, rfl⟩

theorem maxiCapacity_eq (mode : Nat) :
    maxiCapacity mode = if mode = 5 then 77 else if mode = 2 ∨ mode = 3 then 84 else 93 := by
  unfold maxiCapacity maxiSecondary maxiIsStructured
  by_cases h5 : mode = 5
  · simp [h5]
  · by_cases hs : mode = 2 ∨ mode = 3 <;> simp [h5, hs]

/-- `QR_PRODUCE` writes `CW` and result registers, the selected version in `SEL_SIZE` (46_maxicode_qr_producer R490). -/
theorem qrProduce_ok {T : Tables} {m : QrMode} {v : Nat} (hm : qrMode s.mode s.message = .ok m)
    (hv : qrVersion T s.gs1 m s.size s.ecl s.n = .ok v) :
    ∃ cw res, qrProduce T s = .ok { s with cw := cw, res := res } ∧ res.selSize = BitVec.ofNat 16 v := by
  unfold qrProduce
  simp only [hm, hv]
  exact ⟨_, _, rfl, rfl⟩

/-! ### The selected size fits `SEL_SIZE` -/

theorem State.size_lt (s : State) : s.size < 2 ^ 16 := by
  have : s.cfg.symCfg.size.toNat < 2 ^ 8 := s.cfg.symCfg.size.isLt
  unfold State.size
  omega

theorem dmSelect_lt {T : Tables} {size need n : Nat} (h : dmSelect T size need = .ok n) (hsize : size < 2 ^ 16) :
    n < 2 ^ 16 := by
  unfold dmSelect at h
  split at h
  · split at h <;> cases h
    next hfind =>
      have : n ∈ (List.range 24).map (· + 1) := List.mem_of_find?_eq_some hfind
      simp at this
      omega
  · split at h <;> cases h
    exact hsize

theorem qrVersion_lt {T : Tables} {gs1 : Bool} {m : QrMode} {size lev n v : Nat}
    (h : qrVersion T gs1 m size lev n = .ok v) (hsize : size < 2 ^ 16) : v < 2 ^ 16 := by
  unfold qrVersion at h
  split at h
  · split at h <;> cases h
    next hfind =>
      have : v ∈ (List.range 40).map (· + 1) := List.mem_of_find?_eq_some hfind
      simp at this
      omega
  · split at h <;> cases h
    exact hsize

theorem toNat_of_eq_ofNat {w n : Nat} {x : BitVec w} (h : x = BitVec.ofNat w n) (hn : n < 2 ^ w) : x.toNat = n := by
  rw [h, BitVec.toNat_ofNat, Nat.mod_eq_of_lt hn]

/-- A legal configuration is one of a message that `IN` holds (60_exceptions R720). -/
theorem n_le_of_checkConfig {sym : PipeSym} (config : checkConfig sym s = none) : s.n ≤ Config.inMax := by
  unfold checkConfig configFail at config
  split at config
  · cases config
  · split at config
    · cases config
    next hle => simpa using hle

/-! ### What the later stages write of the result registers -/

theorem dmEcc_writes (T : Tables) (s : State) :
    ∃ cw total, dmEcc T s = .ok { s with cw := cw, res := { s.res with cwTotal := total } } := ⟨_, _, rfl⟩

theorem qrEcc_writes (T : Tables) (s : State) :
    ∃ cw total, qrEcc T s = .ok { s with cw := cw, res := { s.res with cwTotal := total } } := ⟨_, _, rfl⟩

theorem qrMask_writes (s : State) :
    ∃ mat sel penalties, qrMask s = .ok { s with mat := mat, res := { s.res with qrMaskSel := sel, qrPenalty := penalties } } :=
  ⟨_, _, _, rfl⟩

end

/-! ### The stages one after another -/

/-- What a stage command does after its rule: the pipeline stage, then completion (40_control_pipeline R203, R210). -/
def State.endStage (s : State) (sym : PipeSym) (stage : PipeStage) : State := (s.setPipe sym stage).complete

/-- The rule sees nothing of the end of the stage before it, so it may as well have run without it. -/
def IgnoresStageEnd (rule : State → CmdResult) : Prop :=
  ∀ (s u : State) (sym : PipeSym) (stage : PipeStage), rule s = .ok u → rule (s.endStage sym stage) = .ok (u.endStage sym stage)

theorem dmProduce_ignoresStageEnd (T : Tables) : IgnoresStageEnd (dmProduce T) := by
  intro s u sym stage h
  obtain ⟨size, hsize, rfl⟩ := (dmProduce_ok_iff T s u).1 h
  exact (dmProduce_ok_iff T _ _).2 ⟨size, hsize, rfl⟩

theorem dmEcc_ignoresStageEnd (T : Tables) : IgnoresStageEnd (dmEcc T) := by
  rintro s u sym stage ⟨⟩
  rfl

theorem dmLayout_ignoresStageEnd (T : Tables) : IgnoresStageEnd (dmLayout T) := by
  rintro s u sym stage ⟨⟩
  rfl

theorem pdfProduce_ignoresStageEnd (T : Tables) : IgnoresStageEnd (pdfProduce T) := by
  intro s u sym stage h
  have micro : (s.endStage sym stage).micro = s.micro := rfl
  unfold pdfProduce at h ⊢
  rw [micro]
  split at h
  next hmicro =>
    obtain ⟨v, hv, rfl⟩ := (pdfProduceMicro_ok_iff T s u).1 h
    rw [if_pos hmicro]
    exact (pdfProduceMicro_ok_iff T _ _).2 ⟨v, hv, rfl⟩
  next hmicro =>
    obtain ⟨rc, hrc, rfl⟩ := (pdfProduceFull_ok_iff T s u).1 h
    rw [if_neg hmicro]
    exact (pdfProduceFull_ok_iff T _ _).2 ⟨rc, hrc, rfl⟩

theorem pdfEcc_ignoresStageEnd : IgnoresStageEnd pdfEcc := by
  rintro s u sym stage ⟨⟩
  rfl

theorem pdfLayout_ignoresStageEnd : IgnoresStageEnd pdfLayout := by
  rintro s u sym stage ⟨⟩
  rfl

theorem maxiEcc_ignoresStageEnd : IgnoresStageEnd maxiEcc := by
  rintro s u sym stage ⟨⟩
  rfl

theorem maxiLayout_ignoresStageEnd : IgnoresStageEnd maxiLayout := by
  rintro s u sym stage ⟨⟩
  rfl

theorem qrEcc_ignoresStageEnd (T : Tables) : IgnoresStageEnd (qrEcc T) := by
  rintro s u sym stage ⟨⟩
  rfl

theorem qrLayout_ignoresStageEnd (T : Tables) : IgnoresStageEnd (qrLayout T) := by
  rintro s u sym stage ⟨⟩
  rfl

theorem qrMask_ignoresStageEnd : IgnoresStageEnd qrMask := by
  rintro s u sym stage ⟨⟩
  rfl

section
variable {sym : PipeSym} {needs leaves : PipeStage} {rule : State → CmdResult} {s u v : State}

/-- A stage command right after the stage it needs leaves what its rule leaves without that stage's end. -/
theorem laterStage_endStage (config : checkConfig sym s = none) (hi : IgnoresStageEnd rule) (hr : rule u = .ok v)
    (frame : StageFrame s u) : laterStage sym needs leaves rule (u.endStage sym needs) = v.endStage sym leaves := by
  have configHere : checkConfig sym (u.endStage sym needs) = none := (checkConfig_congr frame.cfg sym).trans config
  exact laterStage_ok (u := v.endStage sym needs) rfl rfl configHere (hi u v sym needs hr)

end

/-- The rules of two stages in a row end well where each does. -/
theorem andThen_of_ok {r : CmdResult} {f : State → CmdResult} {t u : State} (hr : r = .ok t) (hf : f t = .ok u) :
    r.andThen f = .ok u := CmdResult.andThen_eq_ok.2 ⟨t, hr, hf⟩

/-- Settles O42: each stage's rule succeeds where the one before it left off, and `DM_ENCODE` is the four rules in a row. -/
theorem dmEncodeIsItsStages : Obligations.DmEncodeIsItsStages := by
  intro s modes size config hn hplan hselect
  obtain ⟨plan, cw, res, res', optimized, produced, selected⟩ := dmOptimize_dmProduce_ok hn hplan hselect
  obtain ⟨cw', total, protect⟩ := dmEcc_writes .given { s with plan := plan, cw := cw, res := res' }
  obtain ⟨rows, w, h, placed⟩ :=
    dmLayout_ok .given { s with plan := plan, cw := cw', res := { res' with cwTotal := total } }
  have pipeline : dmPipeline .given s = .ok _ :=
    andThen_of_ok (andThen_of_ok (andThen_of_ok optimized produced) protect) placed
  refine ⟨_, _, _, _, congrArg Host.Outcome.next (firstStage_ok config optimized),
    congrArg Host.Outcome.next (laterStage_endStage config (dmProduce_ignoresStageEnd _) produced rfl),
    congrArg Host.Outcome.next (laterStage_endStage config (dmEcc_ignoresStageEnd _) protect rfl),
    congrArg Host.Outcome.next (laterStage_endStage config (dmLayout_ignoresStageEnd _) placed rfl),
    congrArg Host.Outcome.next (firstStage_ok config pipeline), rfl, rfl, rfl, rfl, ?_, rfl⟩
  exact toNat_of_eq_ofNat selected (dmSelect_lt hselect s.size_lt)

/-- Settles O49: as for Data Matrix; the produce stage succeeds with a variant or with a geometry. -/
theorem pdfEncodeIsItsStages : Obligations.PdfEncodeIsItsStages := by
  intro s classes config hplan msg hmicro hfull
  obtain ⟨plan, cw, res, res', optimized, produced⟩ :=
    pdfOptimize_pdfProduce_ok (n_le_of_checkConfig config) hplan hmicro hfull
  obtain ⟨cw', protect⟩ := pdfEcc_ok { s with plan := plan, cw := cw, res := res' }
  obtain ⟨rows, w, h, placed⟩ := pdfLayout_ok { s with plan := plan, cw := cw', res := res' }
  have pipeline : pdfPipeline .given s = .ok _ :=
    andThen_of_ok (andThen_of_ok (andThen_of_ok optimized produced) protect) placed
  exact ⟨_, _, _, _, congrArg Host.Outcome.next (firstStage_ok config optimized),
    congrArg Host.Outcome.next (laterStage_endStage config (pdfProduce_ignoresStageEnd _) produced rfl),
    congrArg Host.Outcome.next (laterStage_endStage config pdfEcc_ignoresStageEnd protect rfl),
    congrArg Host.Outcome.next (laterStage_endStage config pdfLayout_ignoresStageEnd placed rfl),
    congrArg Host.Outcome.next (firstStage_ok config pipeline), rfl, rfl, rfl, rfl, rfl⟩

/-- Settles O53: as for Data Matrix, without an optimize stage. -/
theorem maxiEncodeIsItsStages : Obligations.MaxiEncodeIsItsStages := by
  intro s msg config hmsg hfits
  obtain ⟨cw, res, produced⟩ := maxiProduce_ok hmsg (hfits.trans_eq (maxiCapacity_eq s.size).symm)
  obtain ⟨cw', res', protect⟩ := maxiEcc_ok { s with cw := cw, res := res }
  obtain ⟨rows, w, h, placed⟩ := maxiLayout_ok { s with cw := cw', res := res' }
  have pipeline : maxiPipeline s = .ok _ :=
    andThen_of_ok (andThen_of_ok produced protect) placed
  exact ⟨_, _, _, congrArg Host.Outcome.next (firstStage_ok config produced),
    congrArg Host.Outcome.next (laterStage_endStage config maxiEcc_ignoresStageEnd protect rfl),
    congrArg Host.Outcome.next (laterStage_endStage config maxiLayout_ignoresStageEnd placed rfl),
    congrArg Host.Outcome.next (firstStage_ok config pipeline), rfl, rfl, rfl, rfl, rfl⟩

/-- Settles O60: as for Data Matrix, without an optimize stage and with a mask stage; no stage after the first writes `SEL_SIZE`. -/
theorem qrEncodeIsItsStages : Obligations.QrEncodeIsItsStages := by
  intro s m v config hmode hversion
  obtain ⟨cw, res, produced, selected⟩ := qrProduce_ok hmode hversion
  obtain ⟨cw', total, protect⟩ := qrEcc_writes .given { s with cw := cw, res := res }
  obtain ⟨rows, w, h, placed⟩ := qrLayout_ok .given { s with cw := cw', res := { res with cwTotal := total } }
  obtain ⟨mat, sel, penalties, masked⟩ :=
    qrMask_writes (State.layOut { s with cw := cw', res := { res with cwTotal := total } } rows w h)
  have pipeline : qrPipeline .given s = .ok _ :=
    andThen_of_ok (andThen_of_ok (andThen_of_ok produced protect) placed) masked
  refine ⟨_, _, _, _, congrArg Host.Outcome.next (firstStage_ok config produced),
    congrArg Host.Outcome.next (laterStage_endStage config (qrEcc_ignoresStageEnd _) protect rfl),
    congrArg Host.Outcome.next (laterStage_endStage config (qrLayout_ignoresStageEnd _) placed rfl),
    congrArg Host.Outcome.next (laterStage_endStage config qrMask_ignoresStageEnd masked rfl),
    congrArg Host.Outcome.next (firstStage_ok config pipeline), rfl, rfl, rfl, rfl, ?_, rfl⟩
  exact toNat_of_eq_ofNat selected (qrVersion_lt hversion s.size_lt)

end Sys2Proof.Machine
end

section
/-! The tables of `BuildField` (41_rs_engine R242): the values `sr` runs through, what the tables hold after each pass of the loop, and
what they hold at its end. -/

namespace Sys2Proof.Machine

theorem getD_set_zero {l : List Nat} {i : Nat} (hi : i < l.length) (a j : Nat) :
    (l.set i a).getD j 0 = if j = i then a else l.getD j 0 := by
  simp only [List.getD_eq_getElem?_getD, List.getElem?_set, hi, if_true, eq_comm (a := i)]
  split <;> rfl

/-! ### The powers of `x` -/

/-- The symbol `x^i`, which `sr` holds after `i` passes of the loop (41_rs_engine R242). -/
def fieldPower (m poly : Nat) : Nat → Nat
  | 0 => 1
  | i + 1 => nextShift m poly (fieldPower m poly i)

section
variable {m poly : Nat}

theorem fieldPower_succ (m poly i : Nat) : fieldPower m poly (i + 1) = nextShift m poly (fieldPower m poly i) := rfl

theorem nextShift_lt (m poly sr : Nat) : nextShift m poly sr < 2 ^ m := Nat.mod_lt _ (by positivity)

@[simp] theorem nextShift_zero (m poly : Nat) : nextShift m poly 0 = 0 := by simp [nextShift]

theorem fieldPower_lt (hm : 1 ≤ m) (poly i : Nat) : fieldPower m poly i < 2 ^ m := by
  cases i with
  | zero => exact Nat.one_lt_two_pow (by omega)
  | succ i => exact nextShift_lt m poly _

/-- Once 0, `sr` stays 0. -/
theorem fieldPower_eq_zero_of_le {i j : Nat} (hi : fieldPower m poly i = 0) (hij : i ≤ j) : fieldPower m poly j = 0 := by
  induction j, hij using Nat.le_induction with
  | base => exact hi
  | succ j _ ih => rw [fieldPower_succ, ih, nextShift_zero]

/-- A field of at most 8 bits has at most 256 symbols, which is what the tables have room for (10_state R78). -/
theorem two_pow_le_tableSize (h8 : m ≤ 8) : 2 ^ m ≤ 256 := Nat.pow_le_pow_right (by decide) h8

/-! ### The loop -/

@[simp] theorem length_alpha_fieldStart (m : Nat) : (fieldStart m).alpha.length = 256 := List.length_replicate

@[simp] theorem length_index_fieldStart (m : Nat) : (fieldStart m).index.length = 256 :=
  List.length_set.trans List.length_replicate

@[simp] theorem alpha_fieldStart (m i : Nat) : (fieldStart m).alpha.getD i 0 = 0 :=
  List.getElem?_getD_replicate_default_eq 0 256 i

theorem index_fieldStart_zero (m : Nat) : (fieldStart m).index.getD 0 0 = 2 ^ m - 1 := rfl

/-- The tables after `k` passes of the loop of `BuildField` (41_rs_engine R242). -/
def fieldAfter (m poly k : Nat) : FieldBuild := (List.range k).foldl (fieldStep m poly) (fieldStart m)

theorem buildField_eq_fieldAfter (m poly : Nat) : buildField m poly = fieldAfter m poly (2 ^ m - 1) := rfl

@[simp] theorem fieldAfter_zero (m poly : Nat) : fieldAfter m poly 0 = fieldStart m := rfl

theorem fieldAfter_succ (m poly k : Nat) : fieldAfter m poly (k + 1) = fieldStep m poly (fieldAfter m poly k) k := by
  simp [fieldAfter, List.range_succ]

@[simp] theorem fieldAfter_sr (m poly k : Nat) : (fieldAfter m poly k).sr = fieldPower m poly k := by
  induction k with
  | zero => rfl
  | succ k ih => rw [fieldAfter_succ, fieldStep, ih, fieldPower_succ]

@[simp] theorem length_alpha_fieldAfter (m poly k : Nat) : (fieldAfter m poly k).alpha.length = 256 := by
  induction k with
  | zero => simp
  | succ k ih => simp [fieldAfter_succ, fieldStep, ih]

@[simp] theorem length_index_fieldAfter (m poly k : Nat) : (fieldAfter m poly k).index.length = 256 := by
  induction k with
  | zero => simp
  | succ k ih => simp [fieldAfter_succ, fieldStep, ih]

theorem alpha_fieldAfter {k : Nat} (hk : k ≤ 256) (i : Nat) :
    (fieldAfter m poly k).alpha.getD i 0 = if i < k then fieldPower m poly i else 0 := by
  induction k with
  | zero => rw [fieldAfter_zero, alpha_fieldStart, if_neg (Nat.not_lt_zero i)]
  | succ k ih =>
    rw [fieldAfter_succ, fieldStep, fieldAfter_sr, getD_set_zero (by simp; omega), ih (by omega)]
    by_cases hik : i = k
    · simp [hik]
    · simp [hik, show i < k + 1 ↔ i < k by omega]

section
variable (hm : 1 ≤ m) (h8 : m ≤ 8)
include hm h8

theorem index_fieldAfter_succ (poly k v : Nat) :
    (fieldAfter m poly (k + 1)).index.getD v 0 =
      if v = fieldPower m poly k then k else (fieldAfter m poly k).index.getD v 0 := by
  have room : fieldPower m poly k < 256 := (fieldPower_lt hm poly k).trans_le (two_pow_le_tableSize h8)
  rw [fieldAfter_succ, fieldStep, fieldAfter_sr, getD_set_zero (by simpa using room)]

/-- The log of a symbol reached so far is one of the passes that reached it. -/
theorem index_fieldAfter_reached (poly : Nat) {i k : Nat} (hi : i < k) :
    (fieldAfter m poly k).index.getD (fieldPower m poly i) 0 < k ∧
      fieldPower m poly ((fieldAfter m poly k).index.getD (fieldPower m poly i) 0) = fieldPower m poly i := by
  induction k with
  | zero => omega
  | succ k ih =>
    rw [index_fieldAfter_succ hm h8]
    split
    next h => exact ⟨by omega, h.symm⟩
    next h =>
      have hik : i ≠ k := fun hik => h (by rw [hik])
      obtain ⟨hlt, heq⟩ := ih (by omega)
      exact ⟨by omega, heq⟩

/-- While `sr` has not been 0, the log of 0 is `A0` as at the start. -/
theorem index_fieldAfter_zero (poly : Nat) {k : Nat} (hk : ∀ i, i < k → fieldPower m poly i ≠ 0) :
    (fieldAfter m poly k).index.getD 0 0 = 2 ^ m - 1 := by
  induction k with
  | zero => exact index_fieldStart_zero m
  | succ k ih =>
    rw [index_fieldAfter_succ hm h8, if_neg (hk k (by omega)).symm, ih fun i hi => hk i (by omega)]

end

/-! ### The tables at the end -/

theorem alpha_buildField (h8 : m ≤ 8) (poly i : Nat) :
    (buildField m poly).alpha.getD i 0 = if i < 2 ^ m - 1 then fieldPower m poly i else 0 :=
  alpha_fieldAfter ((Nat.sub_le _ _).trans (two_pow_le_tableSize h8)) i

theorem ok_buildField_iff (m poly : Nat) : (buildField m poly).ok = true ↔ fieldPower m poly (2 ^ m - 1) = 1 := by
  simp [FieldBuild.ok, buildField_eq_fieldAfter]

end

/-- Settles O30: `sr` runs through `fieldPower`, `alpha` lists it and `index` keeps the last pass that reached a symbol. A field that
passes the order check never reached 0, since `sr` would have stayed 0. -/
theorem fieldTables : Obligations.FieldTables := by
  intro m poly hm h8 f nn
  have hnn : 1 ≤ nn := Nat.le_sub_of_add_le (Nat.one_lt_two_pow (by omega))
  have power : ∀ i, i < nn → f.alpha.getD i 0 = fieldPower m poly i := fun i hi => by
    rw [alpha_buildField h8, if_pos hi]
  have last : nextShift m poly (f.alpha.getD (nn - 1) 0) = fieldPower m poly nn := by
    rw [power (nn - 1) (by omega), ← fieldPower_succ, Nat.sub_add_cancel hnn]
  refine ⟨length_alpha_fieldAfter m poly nn, length_index_fieldAfter m poly nn, power 0 hnn, fun i hi => ?_, fun i hi => ?_, ?_, ?_,
    fun i hi => ?_⟩
  · rw [power _ hi, power _ (by omega), fieldPower_succ]
  · rw [alpha_buildField h8, if_neg (by omega)]
  · rw [last, ok_buildField_iff]
  · intro hok
    have final : fieldPower m poly nn = 1 := (ok_buildField_iff m poly).1 hok
    refine index_fieldAfter_zero hm h8 poly fun i hi h0 => ?_
    rw [fieldPower_eq_zero_of_le h0 hi.le] at final
    exact absurd final (by decide)
  · obtain ⟨hlt, heq⟩ := index_fieldAfter_reached hm h8 poly hi
    rw [power i hi]
    exact (power _ hlt).trans heq

end Sys2Proof.Machine
end

section
/-! `RS_INIT` (41_rs_engine R240 to R244): its tables fit the entries of `GF`, its checks in their order, and that every step keeps `GF`
equal to the tables of the active parameters. -/

namespace Sys2Proof.Machine

/-! ### The tables fit -/

section
variable {m poly : Nat}

theorem mem_alpha_buildField (hm : 1 ≤ m) (poly : Nat) : ∀ v ∈ (buildField m poly).alpha, v < 2 ^ m := by
  rw [buildField_eq_fieldAfter]
  generalize 2 ^ m - 1 = k
  induction k with
  | zero =>
    intro v hv
    rw [fieldAfter_zero] at hv
    rw [List.eq_of_mem_replicate hv]
    positivity
  | succ k ih =>
    intro v hv
    rw [fieldAfter_succ, fieldStep, fieldAfter_sr] at hv
    rcases List.mem_or_eq_of_mem_set hv with hv | rfl
    · exact ih v hv
    · exact fieldPower_lt hm poly k

theorem mem_index_fieldAfter (poly : Nat) {k : Nat} (hk : k ≤ 2 ^ m - 1) : ∀ v ∈ (fieldAfter m poly k).index, v ≤ 2 ^ m - 1 := by
  induction k with
  | zero =>
    intro v hv
    rcases List.mem_or_eq_of_mem_set hv with hv | rfl
    · rw [List.eq_of_mem_replicate hv]
      exact Nat.zero_le _
    · exact le_rfl
  | succ k ih =>
    intro v hv
    rw [fieldAfter_succ] at hv
    rcases List.mem_or_eq_of_mem_set hv with hv | rfl
    · exact ih (by omega) v hv
    · omega

theorem mem_index_buildField (poly : Nat) : ∀ v ∈ (buildField m poly).index, v ≤ 2 ^ m - 1 := mem_index_fieldAfter poly le_rfl

/-- An entry read with the default 0 keeps a bound of the list's elements. -/
theorem getD_le_of_mem_le {l : List Nat} {b : Nat} (h : ∀ v ∈ l, v ≤ b) (i : Nat) : l.getD i 0 ≤ b := by
  by_cases hi : i < l.length
  · rw [List.getD_eq_getElem _ _ hi]
    exact h _ (List.getElem_mem hi)
  · rw [List.getD_eq_default _ _ (by omega)]
    exact Nat.zero_le b

theorem length_generatorStep (alpha index : List Nat) (nn : Nat) {g : List Nat} (hg : 1 ≤ g.length) (root : Nat) :
    (generatorStep alpha index nn g root).length = g.length + 1 := by
  simp only [generatorStep, List.length_append, List.length_cons, List.length_zipWith, List.length_tail, List.length_nil]
  omega

/-- Each root adds one coefficient to the generator (41_rs_engine R244). -/
theorem length_generatorCoeffs (alpha index : List Nat) (nn fcr prim nroots : Nat) :
    (generatorCoeffs alpha index nn fcr prim nroots).length = nroots + 1 := by
  unfold generatorCoeffs
  induction nroots with
  | zero => rfl
  | succ n ih =>
    rw [List.range_succ, List.map_append, List.foldl_append]
    exact (length_generatorStep alpha index nn (by omega) _).trans (congrArg (· + 1) ih)

theorem length_buildGenerator (alpha index : List Nat) (m fcr prim : Nat) {nroots : Nat} (h : nroots ≤ 255) :
    (buildGenerator alpha index m fcr prim nroots).length = 256 := by
  simp only [buildGenerator, List.length_append, List.length_map, List.length_replicate, length_generatorCoeffs]
  omega

/-- The generator is stored as logs (41_rs_engine R244). -/
theorem mem_buildGenerator {index : List Nat} {b : Nat} (hindex : ∀ v ∈ index, v ≤ b) (alpha : List Nat) (m fcr prim nroots : Nat) :
    ∀ v ∈ buildGenerator alpha index m fcr prim nroots, v ≤ b := by
  intro v hv
  rcases List.mem_append.1 hv with hv | hv
  · obtain ⟨c, -, rfl⟩ := List.mem_map.1 hv
    exact getD_le_of_mem_le hindex c
  · rw [List.eq_of_mem_replicate hv]
    exact Nat.zero_le b

theorem Buffer.nats_cleared_writeNats {base : Nat} {vs : List Nat} (length : vs.length = 256) (fits : ∀ v ∈ vs, v < 2 ^ 8) :
    ((Buffer.cleared : Buffer base 256 8).writeNats 0 vs).nats 0 256 = vs := by
  have written := Buffer.nats_writeNats (Buffer.cleared : Buffer base 256 8) 0 vs (by omega) fits
  rwa [length] at written

/-- What `RS_INIT` writes to the tables is read back (41_rs_engine R240, 10_state R78). -/
theorem nats_loadTables (s : State) (hm : 1 ≤ m) (h8 : m ≤ 8) (poly fcr prim : Nat) {nroots : Nat} (h : nroots ≤ 2 ^ m - 2) :
    let f := buildField m poly
    let gen := buildGenerator f.alpha f.index m fcr prim nroots
    let t := s.loadTables f.alpha f.index gen
    t.alphaTo.nats 0 256 = f.alpha ∧ t.indexOf.nats 0 256 = f.index ∧ t.genpoly.nats 0 256 = gen := by
  have room : 2 ^ m ≤ 256 := two_pow_le_tableSize h8
  have log_fits : ∀ v, v ≤ 2 ^ m - 1 → v < 2 ^ 8 := by omega
  refine ⟨Buffer.nats_cleared_writeNats (length_alpha_fieldAfter m poly _) fun v hv => ?_,
    Buffer.nats_cleared_writeNats (length_index_fieldAfter m poly _) fun v hv => log_fits v (mem_index_buildField poly v hv),
    Buffer.nats_cleared_writeNats (length_buildGenerator _ _ m fcr prim (by omega)) fun v hv =>
      log_fits v (mem_buildGenerator (mem_index_buildField poly) _ m fcr prim nroots v hv)⟩
  exact (mem_alpha_buildField hm poly v hv).trans_le room

end

/-! ### The checks of the parameters -/

/-- `CheckRsParams` as a chain of conditions (41_rs_engine R241). -/
theorem checkRsParams_eq (m fcr prim nroots pad : Nat) :
    checkRsParams m fcr prim nroots pad =
      if m < 1 ∨ 8 < m then some 1
      else if 2 ^ m - 1 < fcr then some 2
      else if prim < 1 ∨ 2 ^ m - 1 < prim then some 3
      else if nroots < 1 ∨ 2 ^ m - 1 - 1 < nroots then some 4
      else if 2 ^ m - 1 - 1 - nroots < pad then some 5
      else none := by
  simp only [checkRsParams, Bool.or_eq_true, decide_eq_true_eq]

/-- The legal parameters of the engine (41_rs_engine R241). -/
theorem checkRsParams_eq_none_iff (m fcr prim nroots pad : Nat) :
    checkRsParams m fcr prim nroots pad = none ↔
      (1 ≤ m ∧ m ≤ 8) ∧ fcr ≤ 2 ^ m - 1 ∧ (1 ≤ prim ∧ prim ≤ 2 ^ m - 1) ∧ (1 ≤ nroots ∧ nroots ≤ 2 ^ m - 2) ∧
        pad ≤ 2 ^ m - 2 - nroots := by
  rw [checkRsParams_eq]
  split_ifs <;> simp only [false_iff, true_iff] <;> omega

/-- `CheckRsParams` on the parameter registers (41_rs_engine R241). -/
def RsRegs.check (r : RsRegs) : Option Nat := checkRsParams r.m.toNat r.fcr.toNat r.prim.toNat r.nroots.toNat r.pad.toNat

/-- `BuildField` on the parameter registers (41_rs_engine R242). -/
def RsRegs.field (r : RsRegs) : FieldBuild := buildField r.m.toNat r.poly.toNat

/-- `BuildGenerator` on the parameter registers (41_rs_engine R244). -/
def RsRegs.generator (r : RsRegs) : List Nat :=
  buildGenerator r.field.alpha r.field.index r.m.toNat r.fcr.toNat r.prim.toNat r.nroots.toNat

/-- The state a successful `RS_INIT` leaves but for its completion (41_rs_engine R240). -/
def State.initEngine (s : State) : State := s.loadTables s.rs.field.alpha s.rs.field.index s.rs.generator

section
variable {s : State}

theorem rsInit_of_illegal {detail : Nat} (illegal : s.rs.check = some detail) : rsInit s = .raised (errorAt .rsParam detail) s := by
  unfold RsRegs.check at illegal
  simp only [rsInit, illegal]

theorem rsInit_of_legal (legal : s.rs.check = none) : rsInit s = failIf (!s.rs.field.ok) .rsParam 6 s (.ok s.initEngine) := by
  unfold RsRegs.check at legal
  simp only [rsInit, legal]
  rfl

theorem rsInit_ok (legal : s.rs.check = none) (field : s.rs.field.ok = true) : rsInit s = .ok s.initEngine := by
  rw [rsInit_of_legal legal, failIf_false (by simp [field])]

theorem rsInit_of_no_field (legal : s.rs.check = none) (field : s.rs.field.ok = false) :
    rsInit s = .raised (errorAt .rsParam 6) s := by
  rw [rsInit_of_legal legal, failIf_true (by simp [field])]

theorem exec_rsInit (s : State) : exec .rsInit s = .next (rsInit s).finishRsInit := rfl

/-- What a failing `RS_INIT` leaves (41_rs_engine R243, 60_exceptions R707, R715). -/
theorem exec_rsInit_of_raised {detail : Nat} (h : rsInit s = .raised (errorAt .rsParam detail) s) :
    ∃ t, exec .rsInit s = .next t ∧ ErrorOutcome s t 6 detail noIndex ∧ t.plan = s.plan ∧ t.rsReady = false ∧
      t.act = RsActive.reset := by
  rw [exec_rsInit, h]
  exact ⟨_, rfl, errorOutcome_raiseRsInit s _, rfl, rfl, rfl⟩

theorem exec_rsInit_of_ok (legal : s.rs.check = none) (field : s.rs.field.ok = true) :
    exec .rsInit s = .next s.initEngine.complete := by
  rw [exec_rsInit, rsInit_ok legal field, CmdResult.finishRsInit_ok]

/-- The tables after a successful `RS_INIT` are the ones built (41_rs_engine R240). -/
theorem nats_initEngine (legal : s.rs.check = none) :
    s.initEngine.alphaTo.nats 0 256 = s.rs.field.alpha ∧ s.initEngine.indexOf.nats 0 256 = s.rs.field.index ∧
      s.initEngine.genpoly.nats 0 256 = s.rs.generator := by
  obtain ⟨⟨hm, h8⟩, -, -, ⟨-, hroots⟩, -⟩ := (checkRsParams_eq_none_iff _ _ _ _ _).1 legal
  exact nats_loadTables s hm h8 _ _ _ hroots

end

/-- Settles O28: the clauses follow the order of `CheckRsParams`, and detail 6 needs legal parameters. -/
theorem rsInitRejects : Obligations.RsInitRejects := by
  intro s m nn fails
  have illegal : ∀ {detail}, s.rs.check = some detail → fails detail := fun h => exec_rsInit_of_raised (rsInit_of_illegal h)
  have chain := checkRsParams_eq m s.rs.fcr.toNat s.rs.prim.toNat s.rs.nroots.toNat s.rs.pad.toNat
  refine ⟨fun hm => illegal ?_, fun hm h8 => ⟨fun hfcr => illegal ?_, fun hfcr => ⟨fun hprim => illegal ?_, fun h1 hprim =>
    ⟨fun hroots => illegal ?_, fun h2 hroots => ⟨fun hpad => illegal ?_, fun hpad field => ?_⟩⟩⟩⟩⟩
  · exact chain.trans (if_pos hm)
  · rw [if_neg (by omega), if_pos hfcr] at chain
    exact chain
  · rw [if_neg (by omega), if_neg (by omega), if_pos hprim] at chain
    exact chain
  · rw [if_neg (by omega), if_neg (by omega), if_neg (by omega), if_pos hroots] at chain
    exact chain
  · rw [if_neg (by omega), if_neg (by omega), if_neg (by omega), if_neg (by omega), if_pos hpad] at chain
    exact chain
  · rw [if_neg (by omega), if_neg (by omega), if_neg (by omega), if_neg (by omega), if_neg (by omega)] at chain
    exact exec_rsInit_of_raised (rsInit_of_no_field chain field)

/-- Settles O29: every entry written fits its table, so the tables are read back as they were built. -/
theorem rsInitBuilds : Obligations.RsInitBuilds := by
  intro s m f gen hm h8 hfcr h1 hprim h2 hroots hpad field
  have legal : s.rs.check = none :=
    (checkRsParams_eq_none_iff _ _ _ _ _).2 ⟨⟨hm, h8⟩, hfcr, ⟨h1, hprim⟩, ⟨h2, hroots⟩, hpad⟩
  obtain ⟨halpha, hindex, hgen⟩ := nats_initEngine legal
  refine ⟨_, exec_rsInit_of_ok legal field, fun k hk => ⟨?_, ?_, ?_⟩, rfl⟩
  · simpa [halpha, f, RsRegs.field] using (Buffer.nats_getD s.initEngine.alphaTo 0 256 k hk).symm
  · simpa [hindex, f, RsRegs.field] using (Buffer.nats_getD s.initEngine.indexOf 0 256 k hk).symm
  · simpa [hgen, gen, f, RsRegs.generator, RsRegs.field] using (Buffer.nats_getD s.initEngine.genpoly 0 256 k hk).symm

/-! ### Every step keeps the tables of the active parameters -/

section
variable {s t u : State}

theorem State.TablesBuilt.of_keepsEngine (h : s.TablesBuilt) (engine : KeepsEngine s t) : t.TablesBuilt := by
  obtain ⟨hready, hact, halpha, hindex, hgen⟩ := engine
  unfold State.TablesBuilt
  rw [hready, hact, halpha, hindex, hgen]
  exact h

/-- While the engine is not ready nothing is asked of its tables (10_state R78). -/
theorem State.tablesBuilt_of_not_ready (h : t.rsReady = false) : t.TablesBuilt := fun ready => absurd (h.symm.trans ready) (by decide)

/-- A successful `RS_INIT` makes active the parameters its tables were built from (41_rs_engine R240). -/
theorem State.initEngine_tablesBuilt (legal : s.rs.check = none) (field : s.rs.field.ok = true) : s.initEngine.TablesBuilt :=
  fun _ => ⟨field, nats_initEngine legal⟩

theorem StageFrame.keepsEngine (frame : StageFrame s u) : KeepsEngine s u := by
  obtain ⟨_, _, _, _, _, _, rfl⟩ := stageFrame_iff.1 frame
  exact ⟨rfl, rfl, rfl, rfl, rfl⟩

theorem finishRsInit_tablesBuilt (s : State) : (rsInit s).finishRsInit.TablesBuilt := by
  rcases rsInit_cases s with ⟨e, hr⟩ | ⟨legal, field, hr⟩ <;> rw [hr]
  · exact State.tablesBuilt_of_not_ready rfl
  · exact (State.initEngine_tablesBuilt legal field).of_keepsEngine ⟨rfl, rfl, rfl, rfl, rfl⟩

/-- Only `SOFT_RESET` and `RS_INIT` touch the engine (40_control_pipeline R205). -/
theorem exec_tablesBuilt {i : Instr} (h : s.TablesBuilt) (hexec : exec i s = .next t) : t.TablesBuilt := by
  by_cases hi : i = .rsInit
  · subst hi
    injection hexec with ht
    exact ht ▸ finishRsInit_tablesBuilt s
  · cases commandEnds_of_exec hexec with
    | softReset => exact State.tablesBuilt_of_not_ready rfl
    | initBuilds | initFails => exact absurd rfl hi
    | completes _ frame | stages _ frame | raises _ frame =>
      exact (h.of_keepsEngine frame.keepsEngine).of_keepsEngine ⟨rfl, rfl, rfl, rfl, rfl⟩

/-- Whatever state the outcome goes on with has the tables of its active parameters. -/
def NextTablesBuilt (o : Host.Outcome State Fault Refusal) : Prop := ∀ t, o = .next t → t.TablesBuilt

theorem State.TablesBuilt.next (h : t.TablesBuilt) : NextTablesBuilt (.next t) := by
  intro u hu
  injection hu with hu
  exact hu ▸ h

theorem sequencerTurn_tablesBuilt (h : s.TablesBuilt) : NextTablesBuilt (sequencerTurn s) := by
  rcases sequencerTurn_cases s with ⟨-, hs⟩ | ⟨w, -, -, hs⟩ <;> rw [hs]
  · exact h.next
  · rcases runWord_cases w s with ⟨i, -, hw⟩ | ⟨-, hw⟩ | ⟨-, hw⟩ | ⟨i, -, -, hw⟩ <;> rw [hw]
    · exact fun t ht => exec_tablesBuilt h ht
    · exact (h.of_keepsEngine (keepsEngine_raise s _)).next
    · exact (State.tablesBuilt_of_not_ready rfl).next
    · exact (h.of_keepsEngine (keepsEngine_raise s _)).next

theorem keepsEngine_hostRead (s : State) (a : Address) (be : ByteEnable) : KeepsEngine s (s.hostRead a be) := by
  unfold State.hostRead
  rcases busRead_state_cases s a be with hs | hs | hs <;> simp only [hs] <;> exact ⟨rfl, rfl, rfl, rfl, rfl⟩

theorem keepsEngine_hostPoll (s : State) (polls : Nat) : KeepsEngine s (s.hostPoll polls) := by
  obtain ⟨events, hp⟩ := hostPoll_frame s polls
  rw [hp]
  obtain ⟨hready, hact, halpha, hindex, hgen⟩ := keepsEngine_hostRead s Reg.status.address 0b1111
  exact ⟨hready, hact, halpha, hindex, hgen⟩

theorem keepsEngine_writeRegIdle (s : State) (r : Reg) (d : Word) : KeepsEngine s (s.writeRegIdle r d) := by
  cases r <;> exact ⟨rfl, rfl, rfl, rfl, rfl⟩

theorem keepsEngine_writeRegBusy (s : State) (r : Reg) (d : Word) : KeepsEngine s (s.writeRegBusy r d) := by
  cases r <;> exact ⟨rfl, rfl, rfl, rfl, rfl⟩

/-- `RS_ACT0`, `RS_ACT1` and `GF` are read-only to the host (20_memory R131). -/
theorem keepsEngine_busWrite (s : State) (a : Address) (be : ByteEnable) (d : Word) : KeepsEngine s (s.busWrite a be d) := by
  rcases busWrite_cases s a be d with hs | hs | ⟨r, hs⟩ | ⟨r, hs⟩ | ⟨i, hs⟩ | ⟨i, hs⟩ <;> rw [hs]
  case inr.inr.inl => exact keepsEngine_writeRegBusy s r d
  case inr.inr.inr.inl => exact keepsEngine_writeRegIdle s r d
  all_goals exact ⟨rfl, rfl, rfl, rfl, rfl⟩

theorem State.TablesBuilt.driveRst (h : s.TablesBuilt) (level : Bool) : (s.driveRst level).TablesBuilt := by
  unfold State.driveRst
  split
  · exact h.of_keepsEngine ⟨rfl, rfl, rfl, rfl, rfl⟩
  · split
    · exact State.tablesBuilt_of_not_ready rfl
    · exact h

theorem runEvent_tablesBuilt (h : s.TablesBuilt) (e : Event) : NextTablesBuilt (runEvent e s) :=
  match e with
  | .read a be => (h.of_keepsEngine (keepsEngine_hostRead s a be)).next
  | .write a be d => (h.of_keepsEngine (keepsEngine_busWrite s a be d)).next
  | .sequencer => sequencerTurn_tablesBuilt h
  | .rst level => (h.driveRst level).next
  | .poll polls => (h.of_keepsEngine (keepsEngine_hostPoll s polls)).next

end

/-- Settles O8: the tables change only where `RS_INIT` builds them from the parameters it makes active, and where the engine stops
being ready. -/
theorem stepKeepsTablesBuilt : Obligations.StepKeepsTablesBuilt := by
  intro s t h hstep
  rcases step_cases s with ⟨-, hs⟩ | ⟨e, rest, -, hs⟩ <;> rw [hs] at hstep
  · exact sequencerTurn_tablesBuilt h t hstep
  · have popped : State.TablesBuilt { s with pending := rest } := h.of_keepsEngine ⟨rfl, rfl, rfl, rfl, rfl⟩
    exact runEvent_tablesBuilt popped e t hstep

end Sys2Proof.Machine
end

section
/-! The parity modulo 929 (41_rs_engine R271, R272): the roots of the generator, the registers of `Ecc929` as the remainder of the data,
and the zero syndromes of data and parity. A list of coefficients, lowest first, is read at `ρ` as `Nat.ofDigits ρ`. -/

namespace Sys2Proof.Machine

/-! ### Lists of coefficients -/

section
variable (ρ : ZMod 929)

theorem ofDigits_append_singleton (l : List Nat) (a : Nat) :
    Nat.ofDigits ρ (l ++ [a]) = Nat.ofDigits ρ l + ρ ^ l.length * a := by
  induction l with
  | nil => simp [Nat.ofDigits]
  | cons c l ih =>
    simp only [List.cons_append, Nat.ofDigits, List.length_cons, pow_succ] at ih ⊢
    rw [ih]
    ring

@[simp] theorem ofDigits_replicate_zero (n : Nat) : Nat.ofDigits ρ (List.replicate n 0) = 0 := by
  induction n with
  | zero => rfl
  | succ n ih => rw [List.replicate_succ, Nat.ofDigits, ih, Nat.cast_zero, mul_zero, add_zero]

/-- The list of the negatives. -/
theorem ofDigits_map_neg {l : List Nat} (h : ∀ x ∈ l, x < 929) :
    Nat.ofDigits ρ (l.map fun x => (929 - x) % 929) = -Nat.ofDigits ρ l := by
  induction l with
  | nil => simp [Nat.ofDigits]
  | cons c l ih =>
    obtain ⟨hc, hl⟩ := List.forall_mem_cons.1 h
    have negative : (((929 - c) % 929 : Nat) : ZMod 929) = -c := by
      rw [ZMod.natCast_mod, Nat.cast_sub hc.le, ZMod.natCast_self, zero_sub]
    rw [List.map_cons, Nat.ofDigits, Nat.ofDigits, ih hl, negative]
    ring

end

/-- `xs − r·ys` modulo 929, coefficient by coefficient, as both `Gen929` and `Ecc929` form it (41_rs_engine R271, R272). -/
def subScaled929 (r : Nat) (xs ys : List Nat) : List Nat := List.zipWith (fun x y => (x + 929 - r * y % 929) % 929) xs ys

theorem length_subScaled929 (r : Nat) (xs ys : List Nat) : (subScaled929 r xs ys).length = min xs.length ys.length :=
  List.length_zipWith

theorem mem_subScaled929 (r : Nat) (xs ys : List Nat) : ∀ v ∈ subScaled929 r xs ys, v < 929 := by
  intro v hv
  rw [subScaled929, ← List.map_uncurry_zip_eq_zipWith] at hv
  obtain ⟨-, -, rfl⟩ := List.mem_map.1 hv
  exact Nat.mod_lt _ (by decide)

theorem subScaled929_append_singleton (r : Nat) {xs ys : List Nat} (h : xs.length = ys.length) (x y : Nat) :
    subScaled929 r (xs ++ [x]) (ys ++ [y]) = subScaled929 r xs ys ++ [(x + 929 - r * y % 929) % 929] :=
  List.zipWith_append h

theorem ofDigits_subScaled929 (ρ : ZMod 929) (r : Nat) {xs ys : List Nat} (h : xs.length = ys.length) :
    Nat.ofDigits ρ (subScaled929 r xs ys) = Nat.ofDigits ρ xs - r * Nat.ofDigits ρ ys := by
  induction xs generalizing ys with
  | nil =>
    obtain rfl : ys = [] := List.length_eq_zero_iff.1 h.symm
    simp [subScaled929, Nat.ofDigits]
  | cons x xs ih =>
    obtain ⟨y, ys, rfl⟩ := List.exists_cons_of_length_eq_add_one h.symm
    have coefficient : (((x + 929 - r * y % 929) % 929 : Nat) : ZMod 929) = x - r * y := by
      rw [ZMod.natCast_mod, Nat.cast_sub (by omega), ZMod.natCast_mod, Nat.cast_add, ZMod.natCast_self, add_zero, Nat.cast_mul]
    have rest := ih (Nat.succ_inj.1 h)
    rw [subScaled929] at rest ⊢
    rw [List.zipWith_cons_cons, Nat.ofDigits, Nat.ofDigits, Nat.ofDigits, rest, coefficient]
    ring

/-! ### The generator -/

theorem gen929Step_eq (g : List Nat) (root : Nat) : gen929Step g root = subScaled929 root (0 :: g) (g ++ [0]) := rfl

theorem ofDigits_gen929Step (ρ : ZMod 929) (g : List Nat) (root : Nat) :
    Nat.ofDigits ρ (gen929Step g root) = (ρ - root) * Nat.ofDigits ρ g := by
  rw [gen929Step_eq, ofDigits_subScaled929 ρ root (by simp), ofDigits_append_singleton, Nat.ofDigits]
  push_cast
  ring

theorem gen929Full_succ (k : Nat) : gen929Full (k + 1) = gen929Step (gen929Full k) (3 ^ (k + 1) % 929) := by
  simp only [gen929Full, List.range_succ, List.map_append, List.foldl_append, List.map_cons, List.map_nil, List.foldl_cons,
    List.foldl_nil]

/-- `3^1 … 3^k` are the roots of the generator (41_rs_engine R271). -/
theorem ofDigits_gen929Full {i k : Nat} (hi : 1 ≤ i) (hik : i ≤ k) : Nat.ofDigits ((3 : ZMod 929) ^ i) (gen929Full k) = 0 := by
  induction k, hik using Nat.le_induction with
  | base =>
    obtain ⟨j, rfl⟩ := Nat.exists_eq_add_of_le' hi
    rw [gen929Full_succ, ofDigits_gen929Step, ZMod.natCast_mod]
    simp
  | succ k _ ih => rw [gen929Full_succ, ofDigits_gen929Step, ih, mul_zero]

/-- The generator has `k` coefficients below its leading 1 (41_rs_engine R271). -/
theorem gen929Full_monic (k : Nat) : ∃ a, a.length = k ∧ gen929Full k = a ++ [1] := by
  induction k with
  | zero => exact ⟨[], rfl, rfl⟩
  | succ k ih =>
    obtain ⟨a, hlen, ha⟩ := ih
    refine ⟨subScaled929 (3 ^ (k + 1) % 929) (0 :: a) (a ++ [1]), by simp [length_subScaled929, hlen], ?_⟩
    rw [gen929Full_succ, gen929Step_eq, ha, ← List.cons_append, subScaled929_append_singleton _ (by simp)]
    simp

theorem gen929Full_eq_gen929 (k : Nat) : gen929Full k = gen929 k ++ [1] := by
  obtain ⟨a, hlen, ha⟩ := gen929Full_monic k
  rw [gen929, ha, List.take_left' hlen]

@[simp] theorem length_gen929 (k : Nat) : (gen929 k).length = k := by
  obtain ⟨a, hlen, ha⟩ := gen929Full_monic k
  rw [gen929, ha, List.take_left' hlen, hlen]

/-- Below its leading 1 the generator is `−ρ^k` at each of its roots. -/
theorem ofDigits_gen929 {ρ : ZMod 929} {k : Nat} (root : Nat.ofDigits ρ (gen929Full k) = 0) :
    Nat.ofDigits ρ (gen929 k) = -ρ ^ k := by
  rw [gen929Full_eq_gen929, ofDigits_append_singleton, length_gen929, Nat.cast_one, mul_one] at root
  exact eq_neg_of_add_eq_zero_left root

/-! ### The registers of `Ecc929` -/

/-- The registers of `Ecc929` after the data symbols, `e[0]` first (41_rs_engine R272). -/
def ecc929Registers (k : Nat) (data : List Nat) : List Nat := data.foldl (ecc929Step (gen929 k)) (List.replicate k 0)

theorem ecc929_eq (data : List Nat) (k : Nat) :
    ecc929 data k = ((ecc929Registers k data).map fun x => (929 - x) % 929).reverse := rfl

theorem ecc929Step_eq (a e : List Nat) (d : Nat) :
    ecc929Step a e d = subScaled929 ((d + e.getLastD 0) % 929) (0 :: e.dropLast) a := rfl

@[simp] theorem ecc929Registers_nil (k : Nat) : ecc929Registers k [] = List.replicate k 0 := rfl

theorem ecc929Registers_append_singleton (k : Nat) (data : List Nat) (d : Nat) :
    ecc929Registers k (data ++ [d]) = ecc929Step (gen929 k) (ecc929Registers k data) d := by
  simp only [ecc929Registers, List.foldl_append, List.foldl_cons, List.foldl_nil]

theorem length_ecc929Registers (k : Nat) (data : List Nat) : (ecc929Registers k data).length = k := by
  induction data using List.reverseRecOn with
  | nil => simp
  | append_singleton data d ih =>
    rw [ecc929Registers_append_singleton, ecc929Step_eq, length_subScaled929, List.length_cons, List.length_dropLast, ih, length_gen929]
    omega

theorem mem_ecc929Registers (k : Nat) (data : List Nat) : ∀ x ∈ ecc929Registers k data, x < 929 := by
  induction data using List.reverseRecOn with
  | nil =>
    intro x hx
    rw [List.eq_of_mem_replicate hx]
    decide
  | append_singleton data d _ =>
    rw [ecc929Registers_append_singleton, ecc929Step_eq]
    exact mem_subScaled929 _ _ _

/-- At a root of the generator one step multiplies the registers by `ρ` and adds the data symbol times `ρ^k`. -/
theorem ofDigits_ecc929Step {ρ : ZMod 929} {k : Nat} (root : Nat.ofDigits ρ (gen929Full k) = 0) {e : List Nat} (hk : 1 ≤ k)
    (length : e.length = k) (d : Nat) :
    Nat.ofDigits ρ (ecc929Step (gen929 k) e d) = ρ * Nat.ofDigits ρ e + ρ ^ k * d := by
  obtain ⟨front, last, rfl⟩ : ∃ front last, e = front ++ [last] :=
    ⟨_, _, (List.dropLast_append_getLast (List.length_pos_iff.1 (by omega))).symm⟩
  have hk' : k = front.length + 1 := by simpa using length.symm
  rw [ecc929Step_eq, ofDigits_subScaled929 ρ _ (by simp [hk']), ofDigits_gen929 root, ZMod.natCast_mod, ofDigits_append_singleton,
    List.dropLast_concat, List.getLastD_concat, Nat.ofDigits, hk', pow_succ]
  push_cast
  ring

/-- At a root of the generator the registers are the data times `ρ^k`: both leave one remainder (41_rs_engine R272). -/
theorem ofDigits_ecc929Registers {ρ : ZMod 929} {k : Nat} (root : Nat.ofDigits ρ (gen929Full k) = 0) (hk : 1 ≤ k) (data : List Nat) :
    Nat.ofDigits ρ (ecc929Registers k data) = ρ ^ k * Nat.ofDigits ρ data.reverse := by
  induction data using List.reverseRecOn with
  | nil => simp [Nat.ofDigits]
  | append_singleton data d ih =>
    rw [ecc929Registers_append_singleton, ofDigits_ecc929Step root hk (length_ecc929Registers k data), ih, List.reverse_concat,
      Nat.ofDigits]
    ring

@[simp] theorem length_ecc929 (data : List Nat) (k : Nat) : (ecc929 data k).length = k := by
  rw [ecc929_eq, List.length_reverse, List.length_map, length_ecc929Registers]

/-- Every parity codeword is a codeword (41_rs_engine R270). -/
theorem mem_ecc929 (data : List Nat) (k : Nat) : ∀ v ∈ ecc929 data k, v < 929 := by
  intro v hv
  rw [ecc929_eq, List.mem_reverse] at hv
  obtain ⟨x, -, rfl⟩ := List.mem_map.1 hv
  exact Nat.mod_lt _ (by decide)

/-- Horner's rule reads a list with its highest coefficient first. -/
theorem foldl_horner_eq_ofDigits (b : Nat) (l : List Nat) : l.foldl (fun acc c => acc * b + c) 0 = Nat.ofDigits b l.reverse := by
  rw [Nat.ofDigits_eq_foldr, List.foldr_reverse]
  simp only [Nat.cast_id, mul_comm, add_comm]

/-- Settles O34: at a root the registers are the data times `ρ^k`, and the parity is their negative in the places below the data. -/
theorem ecc929ZeroSyndromes : Obligations.Ecc929ZeroSyndromes := by
  intro data k i hi hik
  have root : Nat.ofDigits ((3 : ZMod 929) ^ i) (gen929Full k) = 0 := ofDigits_gen929Full hi hik
  have value : ((Nat.ofDigits (3 ^ i) (data ++ ecc929 data k).reverse : Nat) : ZMod 929) = 0 := by
    rw [List.reverse_append, Nat.ofDigits_append, ecc929_eq, List.reverse_reverse, List.length_map, length_ecc929Registers]
    push_cast [Nat.coe_ofDigits]
    rw [ofDigits_map_neg _ (mem_ecc929Registers k data), ofDigits_ecc929Registers root (by omega)]
    ring
  rw [foldl_horner_eq_ofDigits]
  exact Nat.mod_eq_zero_of_dvd ((ZMod.natCast_eq_zero_iff _ _).1 value)

end Sys2Proof.Machine
end

section
/-! The host encoders `RS_ENCODE` and `RS929_ENCODE` (41_rs_engine R250 to R253, R270): their shared rule check by check, what it
writes, and the parity over the tables of the engine. -/

namespace Sys2Proof.Machine

/-! ### Scans and buffers -/

/-- The first element to fail the test of a scan. -/
theorem firstFailing_eq_some {ok : Nat → Bool} {l : List Nat} {j : Nat} (i : Nat) (hj : j < l.length)
    (bad : ok (l.getD j 0) = false) (good : ∀ k, k < j → ok (l.getD k 0) = true) : firstFailing ok l i = some (i + j) := by
  induction l generalizing i j with
  | nil => exact absurd hj (Nat.not_lt_zero j)
  | cons b rest ih =>
    cases j with
    | zero =>
      rw [List.getD_cons_zero] at bad
      simp [firstFailing, bad]
    | succ j =>
      have first : ok b = true := good 0 (Nat.succ_pos j)
      have later := ih (i + 1) (Nat.lt_of_succ_lt_succ hj) bad fun k hk => good (k + 1) (Nat.succ_lt_succ hk)
      rw [firstFailing, if_pos first, later, Nat.add_right_comm, Nat.add_assoc]

theorem firstFailing_eq_none {ok : Nat → Bool} {l : List Nat} (i : Nat) (good : ∀ b ∈ l, ok b = true) :
    firstFailing ok l i = none := by
  induction l generalizing i with
  | nil => rfl
  | cons b rest ih =>
    obtain ⟨hb, hrest⟩ := List.forall_mem_cons.1 good
    rw [firstFailing, if_pos hb, ih (i + 1) hrest]

theorem Buffer.forall_mem_nats {base size width : Nat} {b : Buffer base size width} {i n : Nat} {P : Nat → Prop}
    (h : ∀ k, k < n → P (b.get (i + k)).toNat) : ∀ v ∈ b.nats i n, P v := by
  intro v hv
  rw [Buffer.nats, Buffer.range_eq, List.map_map] at hv
  obtain ⟨k, hk, rfl⟩ := List.mem_map.1 hv
  exact h k (List.mem_range.1 hk)

theorem Buffer.mem_nats_lt {base size width : Nat} (b : Buffer base size width) (i n : Nat) : ∀ v ∈ b.nats i n, v < 2 ^ width :=
  Buffer.forall_mem_nats fun _ _ => BitVec.isLt _

/-- A number written in full reads back. -/
theorem Buffer.toNat_get_writeNats {base size width : Nat} (b : Buffer base size width) {i j : Nat} {vs : List Nat}
    (hj : j < vs.length) (inside : i + vs.length ≤ size) (fits : ∀ v ∈ vs, v < 2 ^ width) :
    ((b.writeNats i vs).get (i + j)).toNat = vs.getD j 0 := by
  rw [Buffer.get_writeNats, if_pos (by omega), Nat.add_sub_cancel_left, BitVec.toNat_ofNat, Nat.mod_eq_of_lt]
  rw [List.getD_eq_getElem _ _ hj]
  exact fits _ (List.getElem_mem hj)

/-! ### The shared rule -/

/-- The source and the destination of an encoder lie inside `CW` (41_rs_engine R250, R270). -/
abbrev State.CwBounds (s : State) (nroots : Nat) : Prop :=
  s.rs.src.toNat + s.rs.len.toNat ≤ 4096 ∧ s.rs.dst.toNat + nroots ≤ 4096

/-- The data symbols of an encoder (41_rs_engine R253). -/
abbrev State.rsData (s : State) : List Nat := s.cw.nats s.rs.src.toNat s.rs.len.toNat

section
variable {s : State} {nroots maxLen limit : Nat} {parity : List Nat → List Nat}

theorem cwCheck_eq_true (outside : ¬ s.CwBounds nroots) :
    (decide (Config.cwMax < s.rs.src.toNat + s.rs.len.toNat) || decide (Config.cwMax < s.rs.dst.toNat + nroots)) = true := by
  have size : Config.cwMax = 4096 := rfl
  simp only [Bool.or_eq_true, decide_eq_true_eq]
  omega

theorem cwCheck_eq_false (inside : s.CwBounds nroots) :
    (decide (Config.cwMax < s.rs.src.toNat + s.rs.len.toNat) || decide (Config.cwMax < s.rs.dst.toNat + nroots)) = false := by
  have size : Config.cwMax = 4096 := rfl
  simp only [Bool.or_eq_false_iff, decide_eq_false_iff_not]
  omega

theorem rsEncodeWith_of_outside (outside : ¬ s.CwBounds nroots) :
    rsEncodeWith s nroots maxLen limit parity = .raised (errorAt .config 8) s := by
  unfold rsEncodeWith
  exact failIf_true (cwCheck_eq_true outside) _ _ _ _

theorem rsEncodeWith_of_too_long (inside : s.CwBounds nroots) (long : maxLen < s.rs.len.toNat) :
    rsEncodeWith s nroots maxLen limit parity = .raised (errorAt .rsRange 1) s := by
  unfold rsEncodeWith
  rw [failIf_false (cwCheck_eq_false inside),
    failIf_true (decide_eq_true long)]

/-- Past the checks of the lengths the rule scans the symbols (41_rs_engine R250, R270). -/
theorem rsEncodeWith_of_symbolAbove (inside : s.CwBounds nroots) (short : s.rs.len.toNat ≤ maxLen) {i : Nat}
    (found : symbolAbove limit s.rsData s.rs.src.toNat = some i) :
    rsEncodeWith s nroots maxLen limit parity = .raised ⟨.rsRange, 2, BitVec.ofNat 32 i⟩ s := by
  unfold rsEncodeWith
  rw [failIf_false (cwCheck_eq_false inside),
    failIf_false (decide_eq_false (by omega))]
  simp only [found]

theorem rsEncodeWith_of_no_symbolAbove (inside : s.CwBounds nroots) (short : s.rs.len.toNat ≤ maxLen)
    (found : symbolAbove limit s.rsData s.rs.src.toNat = none) :
    rsEncodeWith s nroots maxLen limit parity = .ok { s with cw := s.cw.writeNats s.rs.dst.toNat (parity s.rsData) } := by
  unfold rsEncodeWith
  rw [failIf_false (cwCheck_eq_false inside),
    failIf_false (decide_eq_false (by omega))]
  simp only [found]

theorem symbolAbove_eq_some {j : Nat} (hj : j < s.rs.len.toNat) (above : limit < (s.cw.get (s.rs.src.toNat + j)).toNat)
    (first : ∀ i, i < j → (s.cw.get (s.rs.src.toNat + i)).toNat ≤ limit) :
    symbolAbove limit s.rsData s.rs.src.toNat = some (s.rs.src.toNat + j) := by
  refine firstFailing_eq_some _ (by simpa using hj) (decide_eq_false ?_) fun k hk => decide_eq_true ?_
  · rw [Buffer.nats_getD _ _ _ _ hj]
    omega
  · rw [Buffer.nats_getD _ _ _ _ (by omega)]
    exact first k hk

theorem symbolAbove_eq_none (inRange : ∀ j, j < s.rs.len.toNat → (s.cw.get (s.rs.src.toNat + j)).toNat ≤ limit) :
    symbolAbove limit s.rsData s.rs.src.toNat = none :=
  firstFailing_eq_none _ (Buffer.forall_mem_nats fun j hj => decide_eq_true (inRange j hj))

variable {i : Instr}

/-- The errors that both encoders share, in their order (41_rs_engine R250, R270, 60_exceptions R709, R712, R716). -/
theorem encoder_errors (hexec : exec i s = .next (rsEncodeWith s nroots maxLen limit parity).finish) :
    (4096 < s.rs.src.toNat + s.rs.len.toNat ∨ 4096 < s.rs.dst.toNat + nroots → RaisesError i s 3 8 noIndex) ∧
    (s.rs.src.toNat + s.rs.len.toNat ≤ 4096 → s.rs.dst.toNat + nroots ≤ 4096 →
      (maxLen < s.rs.len.toNat → RaisesError i s 8 1 noIndex) ∧
      (s.rs.len.toNat ≤ maxLen → ∀ j, j < s.rs.len.toNat → limit < (s.cw.get (s.rs.src.toNat + j)).toNat →
        (∀ k, k < j → (s.cw.get (s.rs.src.toNat + k)).toNat ≤ limit) →
        RaisesError i s 8 2 (BitVec.ofNat 32 (s.rs.src.toNat + j)))) := by
  have raises : ∀ {e}, rsEncodeWith s nroots maxLen limit parity = .raised e s → RaisesError i s e.code.number e.detail e.index :=
    fun h => raisesError_of_exec (by rw [hexec, h, CmdResult.finish_raised])
  refine ⟨fun outside => ?_, fun hsrc hdst => ⟨fun long => ?_, fun short j hj above first => ?_⟩⟩
  · exact raises (rsEncodeWith_of_outside (by omega))
  · exact raises (rsEncodeWith_of_too_long ⟨hsrc, hdst⟩ long)
  · exact raises (rsEncodeWith_of_symbolAbove ⟨hsrc, hdst⟩ short (symbolAbove_eq_some hj above first))

/-- What a successful encoder leaves: the parity in `CW`, and all else as before (41_rs_engine R253). -/
theorem encoder_result (hexec : exec i s = .next (rsEncodeWith s nroots maxLen limit parity).finish) (inside : s.CwBounds nroots)
    (short : s.rs.len.toNat ≤ maxLen) (inRange : ∀ j, j < s.rs.len.toNat → (s.cw.get (s.rs.src.toNat + j)).toNat ≤ limit)
    (length : (parity s.rsData).length = nroots) (fits : ∀ v ∈ parity s.rsData, v < 2 ^ 10) :
    ∃ t, exec i s = .next t ∧
      (∀ j, j < nroots → (t.cw.get (s.rs.dst.toNat + j)).toNat = (parity s.rsData).getD j 0) ∧
      (∀ j, j < s.rs.dst.toNat ∨ s.rs.dst.toNat + nroots ≤ j → t.cw.get j = s.cw.get j) ∧
      t = { s with cw := t.cw, done := true, latch := none } := by
  rw [hexec, rsEncodeWith_of_no_symbolAbove inside short (symbolAbove_eq_none inRange), CmdResult.finish_ok]
  refine ⟨_, rfl, fun j hj => ?_, fun j hj => ?_, rfl⟩
  · exact Buffer.toNat_get_writeNats s.cw (length ▸ hj) (by omega) fits
  · exact Buffer.get_writeNats_of_not_mem s.cw _ j _ (by omega)

end

/-! ### The two commands -/

section
variable {s : State}

/-- The parity of `RS_ENCODE` over the tables in `GF` (41_rs_engine R251). -/
def State.hostParity (s : State) (data : List Nat) : List Nat :=
  lfsrParity data (s.alphaTo.nats 0 256) (s.indexOf.nats 0 256) (s.genpoly.nats 0 256) s.act.nn s.act.nroots.toNat

theorem exec_rsEncode_of_not_ready (h : s.rsReady = false) : exec .rsEncode s = .next (s.raise (errorAt .rsNotReady 0)) := by
  have raised : rsEncode s = .raised (errorAt .rsNotReady 0) s := failIf_true (by simp [h]) _ _ _ _
  exact congrArg (fun r => Host.Outcome.next (CmdResult.finish r)) raised

theorem exec_rsEncode_of_ready (h : s.rsReady = true) :
    exec .rsEncode s = .next
      (rsEncodeWith s s.act.nroots.toNat (s.act.nn - s.act.nroots.toNat - s.act.pad.toNat) s.act.nn s.hostParity).finish := by
  have passed : rsEncode s = rsEncodeWith s _ _ _ s.hostParity := failIf_false (by simp [h]) _ _ _ _
  exact congrArg (fun r => Host.Outcome.next (CmdResult.finish r)) passed

theorem exec_rs929Encode_of_illegal (h : s.rs.nroots.toNat < 1 ∨ 512 < s.rs.nroots.toNat) :
    exec .rs929Encode s = .next (s.raise (errorAt .rsParam 4)) := by
  have raised : rs929Encode s = .raised (errorAt .rsParam 4) s := failIf_true (by simpa using h) _ _ _ _
  exact congrArg (fun r => Host.Outcome.next (CmdResult.finish r)) raised

theorem exec_rs929Encode_of_legal (h1 : 1 ≤ s.rs.nroots.toNat) (h512 : s.rs.nroots.toNat ≤ 512) :
    exec .rs929Encode s = .next
      (rsEncodeWith s s.rs.nroots.toNat (928 - s.rs.nroots.toNat) 928 fun data => ecc929 data s.rs.nroots.toNat).finish := by
  have passed : rs929Encode s = rsEncodeWith s _ _ _ fun data => ecc929 data s.rs.nroots.toNat :=
    failIf_false (by simp only [Bool.or_eq_false_iff, decide_eq_false_iff_not]; omega) _ _ _ _
  exact congrArg (fun r => Host.Outcome.next (CmdResult.finish r)) passed

/-- Settles O31: past its own first check each command is the shared rule, whose errors come in that order. -/
theorem rsEncodeErrors : Obligations.RsEncodeErrors := by
  intro s src len dst nroots nn k
  refine ⟨fun h => raisesError_of_exec (exec_rsEncode_of_not_ready h), fun ready => encoder_errors (exec_rsEncode_of_ready ready),
    fun h => raisesError_of_exec (exec_rs929Encode_of_illegal h), fun h1 h512 => ?_⟩
  obtain ⟨outside, inside⟩ := encoder_errors (exec_rs929Encode_of_legal h1 h512)
  refine ⟨outside, fun hsrc hdst => ?_⟩
  obtain ⟨long, symbol⟩ := inside hsrc hdst
  exact ⟨fun h => long (by omega), fun h => symbol (by omega)⟩

/-! ### The parity of the LFSR -/

theorem length_lfsrStep {alpha index taps par : List Nat} (nn d : Nat) (hpar : 1 ≤ par.length) (htaps : taps.length = par.length) :
    (lfsrStep alpha index taps nn par d).length = par.length := by
  unfold lfsrStep
  dsimp only
  split
  · simp only [List.length_zipWith, List.length_append, List.length_tail, List.length_singleton]
    omega
  · simp only [List.length_append, List.length_tail, List.length_singleton]
    omega

/-- A step adds entries of `ALPHA_TO` only, so the parity stays inside their width (41_rs_engine R251). -/
theorem mem_lfsrStep {alpha par : List Nat} {w : Nat} (halpha : ∀ v ∈ alpha, v < 2 ^ w) (hpar : ∀ v ∈ par, v < 2 ^ w)
    (index taps : List Nat) (nn d : Nat) : ∀ v ∈ lfsrStep alpha index taps nn par d, v < 2 ^ w := by
  have shifted : ∀ v ∈ par.tail ++ [0], v < 2 ^ w := by
    intro v hv
    rcases List.mem_append.1 hv with hv | hv
    · exact hpar v (List.mem_of_mem_tail hv)
    · rw [List.mem_singleton.1 hv]
      positivity
  have added : ∀ k, alpha.getD k 0 < 2 ^ w := fun k =>
    Nat.lt_of_le_pred (by positivity) (getD_le_of_mem_le (fun v hv => Nat.le_pred_of_lt (halpha v hv)) k)
  unfold lfsrStep
  dsimp only
  split
  · intro v hv
    rw [← List.map_uncurry_zip_eq_zipWith] at hv
    obtain ⟨⟨p, g⟩, hp, rfl⟩ := List.mem_map.1 hv
    exact Nat.xor_lt_two_pow (shifted p (List.of_mem_zip hp).1) (added _)
  · exact shifted

section
variable {alpha gen : List Nat} {nroots : Nat}

theorem length_lfsrParity (hroots : 1 ≤ nroots) (hgen : nroots ≤ gen.length) (data alpha index : List Nat) (nn : Nat) :
    (lfsrParity data alpha index gen nn nroots).length = nroots := by
  have taps : (gen.take nroots).reverse.length = nroots := by simpa using hgen
  unfold lfsrParity
  induction data using List.reverseRecOn with
  | nil => exact List.length_replicate
  | append_singleton data d ih =>
    rw [List.foldl_append]
    exact (length_lfsrStep nn d (by omega) (by omega)).trans ih

theorem mem_lfsrParity {w : Nat} (halpha : ∀ v ∈ alpha, v < 2 ^ w) (data index gen : List Nat) (nn nroots : Nat) :
    ∀ v ∈ lfsrParity data alpha index gen nn nroots, v < 2 ^ w := by
  unfold lfsrParity
  induction data using List.reverseRecOn with
  | nil =>
    intro v hv
    rw [List.eq_of_mem_replicate hv]
    positivity
  | append_singleton data d ih =>
    rw [List.foldl_append]
    exact mem_lfsrStep halpha ih _ _ nn d

end

theorem length_hostParity (wf : s.StatusWf) (ready : s.rsReady = true) (data : List Nat) :
    (s.hostParity data).length = s.act.nroots.toNat := by
  obtain ⟨⟨hm, h8⟩, -, -, ⟨h1, hroots⟩, -⟩ := (checkRsParams_eq_none_iff _ _ _ _ _).1 (wf.rsActive ready)
  have room : 2 ^ s.act.m.toNat ≤ 256 := two_pow_le_tableSize h8
  exact length_lfsrParity h1 (by rw [Buffer.nats_length]; omega) _ _ _ _

theorem mem_hostParity (s : State) (data : List Nat) : ∀ v ∈ s.hostParity data, v < 2 ^ 8 :=
  mem_lfsrParity (Buffer.mem_nats_lt s.alphaTo 0 256) _ _ _ _ _

end

/-- Settles O32: the engine's parameters are legal, so the parity has `NROOTS` symbols, and each fits an entry of `CW`. -/
theorem rsEncodeResult : Obligations.RsEncodeResult := by
  intro s wf ready src len dst nroots nn par hsrc hdst short inRange
  have length : (s.hostParity s.rsData).length = nroots := length_hostParity wf ready s.rsData
  obtain ⟨t, hexec, written, kept, frame⟩ := encoder_result (exec_rsEncode_of_ready ready) ⟨hsrc, hdst⟩ short inRange length
    fun v hv => (mem_hostParity s s.rsData v hv).trans (by decide)
  exact ⟨t, hexec, length, written, kept, frame⟩

/-- Settles O33: the parity has `k` codewords, each a remainder modulo 929. -/
theorem rs929EncodeResult : Obligations.Rs929EncodeResult := by
  intro s src len dst k par h1 h512 hsrc hdst hlen inRange
  have below : ∀ v ∈ par, v < 929 := mem_ecc929 s.rsData k
  obtain ⟨t, hexec, written, kept, frame⟩ := encoder_result (exec_rs929Encode_of_legal h1 h512) ⟨hsrc, hdst⟩ (by omega) inRange
    (length_ecc929 s.rsData k) fun v hv => (below v hv).trans (by decide)
  refine ⟨t, hexec, length_ecc929 s.rsData k, fun j hj => ⟨written j hj, ?_⟩, kept, frame⟩
  exact Nat.lt_succ_of_le (getD_le_of_mem_le (fun v hv => Nat.le_of_lt_succ (below v hv)) j)

end Sys2Proof.Machine
end

section
/-! `DM_OPTIMIZE` and its errors (42_dm_optimizer R290, R302, R303): what `PLAN` holds after a plan is stored, and the raises that
`DM_OPTIMIZE` and `DM_ENCODE` share. -/

namespace Sys2Proof.Machine

/-! ### The entries of `PLAN` after a plan is stored -/

section
variable {s : State} {codes : List Nat}

theorem State.get_plan_storePlan {k : Nat} (hk : k < codes.length) (fits : codes.length ≤ Config.inMax)
    (codesFit : ∀ c ∈ codes, c < 2 ^ 4) : ((s.storePlan codes).plan.get k).toNat = codes.getD k 0 := by
  have inside : k < 4097 := by have : Config.inMax = 4096 := rfl; omega
  have code : codes.getD k 0 < 2 ^ 4 := List.getD_eq_getElem codes 0 hk ▸ codesFit _ (List.getElem_mem hk)
  have length : k < (codes ++ [planSentinel]).length := by rw [List.length_append]; omega
  rw [State.storePlan_plan, Buffer.get_writeNats, if_pos ⟨Nat.zero_le k, length, inside⟩, Nat.sub_zero,
    List.getD_append _ _ _ _ hk, BitVec.toNat_ofNat, Nat.mod_eq_of_lt code]

/-- The sentinel stands right after the codes (10_state R77). -/
theorem State.get_plan_storePlan_sentinel (fits : codes.length ≤ Config.inMax) :
    (s.storePlan codes).plan.get codes.length = 0xF := by
  have inside : codes.length < 4097 := Nat.lt_succ_of_le fits
  rw [State.storePlan_plan, Buffer.get_writeNats, if_pos ⟨Nat.zero_le _, by simp, inside⟩, Nat.sub_zero,
    List.getD_append_right _ _ _ _ le_rfl, Nat.sub_self]
  rfl

theorem State.get_plan_storePlan_above {k : Nat} (hk : codes.length < k) : (s.storePlan codes).plan.get k = s.plan.get k :=
  Buffer.get_writeNats_of_not_mem s.plan 0 k _ (Or.inr (by rw [List.length_append, List.length_singleton]; omega))

theorem State.toNat_planLen_storePlan (fits : codes.length ≤ Config.inMax) :
    (s.storePlan codes).res.planLen.toNat = codes.length + 1 :=
  toNat_of_eq_ofNat rfl (Nat.lt_of_le_of_lt (Nat.succ_le_succ fits) (by decide))

end

/-- Settles O35: the rule stores the plan, whose codes are those of as many modes as the message has bytes. -/
theorem dmOptimizeResult : Obligations.DmOptimizeResult := by
  intro s modes config hn hplan
  have optimized := (dmOptimize_ok_iff .given s _).2 ⟨hn, modes, hplan, rfl⟩
  have length : modes.length = s.n := (length_of_dmPlan hplan).trans s.length_message
  have codesLength : (modes.map DmMode.code).length = s.n := (List.length_map _).trans length
  have fits : (modes.map DmMode.code).length ≤ Config.inMax := codesLength.trans_le (n_le_of_checkConfig config)
  refine ⟨_, congrArg Host.Outcome.next (firstStage_ok config optimized), length, fun k hk => ?_, ?_, fun k hk => ?_, ?_, rfl⟩
  · have stored := State.get_plan_storePlan (s := s) (codesLength.symm ▸ hk) fits (List.forall_mem_map.2 fun m _ => m.code_lt)
    exact stored.trans (List.getD_map modes DmMode.ascii DmMode.code)
  · exact codesLength ▸ State.get_plan_storePlan_sentinel (s := s) fits
  · exact State.get_plan_storePlan_above (codesLength.trans_lt hk)
  · exact codesLength ▸ State.toNat_planLen_storePlan (s := s) fits

/-! ### The errors -/

section
variable {s : State} {e : CmdError} {bytes : List Nat} {k : Nat}

theorem dmOptimize_of_too_long (T : Tables) (long : Config.maxByteCount < s.n) : dmOptimize T s = .raised (errorAt .capacity 1) s := by
  unfold dmOptimize
  exact if_pos long

theorem dmOptimize_of_no_plan {T : Tables} (short : s.n ≤ Config.maxByteCount) (failed : dmPlan T s.gs1 s.mode s.message = .error e) :
    dmOptimize T s = .raised e s := by
  unfold dmOptimize
  rw [if_neg (Nat.not_lt.2 short), failed]

/-- What the optimize stage raises, `DM_ENCODE` raises too: no later stage of it runs (40_control_pipeline R234). -/
theorem raisesError_of_dmOptimize_raised (config : checkConfig .dm s = none) (raised : dmOptimize .given s = .raised e s)
    {i : Instr} (hi : i ∈ [Instr.dmOptimize, .dmEncode]) : RaisesError i s e.code.number e.detail e.index := by
  have pipeline : dmPipeline .given s = .raised e s := by simp [dmPipeline, raised]
  obtain rfl | rfl : i = .dmOptimize ∨ i = .dmEncode := by simpa using hi
  · exact raisesError_of_exec (congrArg Host.Outcome.next (firstStage_raised config raised))
  · exact raisesError_of_exec (congrArg Host.Outcome.next (firstStage_raised config pipeline))

/-- The lowest byte of the message to fail a test. -/
theorem State.firstFailing_message {ok : Nat → Bool} (hk : k < s.n) (bad : ok (s.inBuf.get k).toNat = false)
    (good : ∀ j, j < k → ok (s.inBuf.get j).toNat = true) : firstFailing ok s.message 0 = some k := by
  have byte : ∀ j, j < s.n → s.message.getD j 0 = (s.inBuf.get j).toNat := fun j hj => by
    rw [State.message, Buffer.nats_getD _ _ _ _ hj, Nat.zero_add]
  have found := firstFailing_eq_some (ok := ok) 0 (s.length_message.symm ▸ hk) (byte k hk ▸ bad)
    fun j hj => (byte j (hj.trans hk)).symm ▸ good j hj
  rwa [Nat.zero_add] at found

theorem inEdifact_iff (b : Nat) : inEdifact b = true ↔ 32 ≤ b ∧ b ≤ 94 := by simp [inEdifact]

theorem dmPlan_edifact_error (T : Tables) (gs1 : Bool) {mode : Nat} (hmode : mode = 5)
    (found : firstFailing inEdifact bytes 0 = some k) : dmPlan T gs1 mode bytes = .error ⟨.charset, 5, BitVec.ofNat 32 k⟩ := by
  simp [hmode, dmPlan, DmMode.ofCode, dmForcedPlan, found]

theorem dmPlan_x12_error {T : Tables} (gs1 : Bool) {mode : Nat} (hmode : mode = 4)
    (found : firstFailing (fun b => (T.dmX12 b).isSome) bytes 0 = some k) :
    dmPlan T gs1 mode bytes = .error ⟨.charset, 4, BitVec.ofNat 32 k⟩ := by
  simp [hmode, dmPlan, DmMode.ofCode, dmForcedPlan, found]

end

/-- Settles O36: the length check comes first in the optimize stage, and a forced plan names the first byte its scan stops at. -/
theorem dmOptimizeErrors : Obligations.DmOptimizeErrors := by
  intro s config i hi
  refine ⟨fun long => ?_, fun short k hk => ⟨fun hmode bad good => ?_, fun hmode bad good => ?_⟩⟩
  · exact raisesError_of_dmOptimize_raised config (dmOptimize_of_too_long .given long) hi
  · have found : firstFailing inEdifact s.message 0 = some k :=
      State.firstFailing_message hk (Bool.eq_false_iff.2 fun inside => bad ((inEdifact_iff _).1 inside))
        fun j hj => (inEdifact_iff _).2 (good j hj)
    have failed := dmPlan_edifact_error .given s.gs1 hmode found
    exact raisesError_of_dmOptimize_raised config (dmOptimize_of_no_plan short failed) hi
  · have found : firstFailing (fun b => (x12Value b).isSome) s.message 0 = some k :=
      State.firstFailing_message hk (Option.isSome_eq_false_iff.2 (Option.isNone_iff_eq_none.2 bad)) good
    have failed := dmPlan_x12_error (T := .given) s.gs1 hmode found
    exact raisesError_of_dmOptimize_raised config (dmOptimize_of_no_plan short failed) hi

end Sys2Proof.Machine
end

section
/-! The automatic Data Matrix plan is optimal (42_dm_optimizer R291 to R300, 70_reset_and_hazards R787). The backward pass tabulates
`dmLeast`, the least cost of a suffix of the message from each mode; every plan costs at least that, and the forward pass, which
follows the table, costs exactly that. -/

namespace Sys2Proof.Machine

/-! ### The minimum over the next mode -/

@[simp] theorem dmSwitch_given_self (m : DmMode) : Tables.given.dmSwitch m m = 0 := by
  cases m <;> rfl

theorem dmSwitch_given_le (a b : DmMode) : Tables.given.dmSwitch a b ≤ 3 := by
  cases a <;> cases b <;> decide

theorem DmMode.mem_all (m : DmMode) : m ∈ DmMode.all := by
  cases m <;> decide

/-- The entries of a row stand in the order of the modes. -/
theorem dmEntry_map (f : DmMode → DmEntry) (m : DmMode) : dmEntry (DmMode.all.map f) m = f m := by
  cases m <;> rfl

/-- What it costs to go on in mode `m` from mode `cur`, where `row` holds the targets (42_dm_optimizer R298, R300). -/
def dmTakeCost (T : Tables) (row : DmRow) (cur m : DmMode) : Nat := (dmEntry row m).target + T.dmSwitch cur m

theorem le_foldl_min_iff (l : List Nat) (a x : Nat) : x ≤ l.foldl min a ↔ x ≤ a ∧ ∀ v ∈ l, x ≤ v := by
  induction l generalizing a with
  | nil => simp
  | cons v rest ih => simp [ih, and_assoc]

theorem le_dmBestNext_iff {T : Tables} {row : DmRow} {cur : DmMode} {x : Nat} :
    x ≤ dmBestNext T row cur ↔ x ≤ 2 * dmInf ∧ ∀ m, x ≤ dmTakeCost T row cur m := by
  simp [dmBestNext, le_foldl_min_iff, dmTakeCost, DmMode.mem_all, Nat.add_comm]

theorem dmBestNext_le (T : Tables) (row : DmRow) (cur m : DmMode) : dmBestNext T row cur ≤ dmTakeCost T row cur m :=
  (le_dmBestNext_iff.1 le_rfl).2 m

/-! ### The choice of the forward pass -/

/-- One comparison of the forward pass: a mode is taken where it costs less than the best so far (42_dm_optimizer R300). -/
def dmConsider (cost : DmMode → Nat) (best : DmMode × Nat) (m : DmMode) : DmMode × Nat :=
  if cost m < best.2 then (m, cost m) else best

theorem dmChoose_eq (T : Tables) (row : DmRow) (cur : DmMode) :
    dmChoose T row cur = DmMode.all.foldl (dmConsider (dmTakeCost T row cur)) (cur, (dmEntry row cur).target) := rfl

/-- Such comparisons end with a mode and its cost, and none of the modes compared costs less. -/
theorem foldl_dmConsider {cost : DmMode → Nat} (l : List DmMode) {best : DmMode × Nat} (start : best.2 = cost best.1) :
    (l.foldl (dmConsider cost) best).2 = cost (l.foldl (dmConsider cost) best).1 ∧
      (l.foldl (dmConsider cost) best).2 ≤ best.2 ∧ ∀ m ∈ l, (l.foldl (dmConsider cost) best).2 ≤ cost m := by
  induction l generalizing best with
  | nil => simp [start]
  | cons m rest ih =>
    have kept : (dmConsider cost best m).2 = cost (dmConsider cost best m).1 := by
      unfold dmConsider
      split
      · rfl
      · exact start
    have least : (dmConsider cost best m).2 ≤ best.2 ∧ (dmConsider cost best m).2 ≤ cost m := by
      unfold dmConsider
      split <;> omega
    obtain ⟨costs, le_best, le_rest⟩ := ih kept
    exact ⟨costs, le_best.trans least.1, List.forall_mem_cons.2 ⟨le_best.trans least.2, le_rest⟩⟩

/-- The mode chosen costs no more than any other; staying costs its target, as no switch is needed. -/
theorem dmTakeCost_dmChoose_le {T : Tables} {cur : DmMode} (stay : T.dmSwitch cur cur = 0) (row : DmRow) (m : DmMode) :
    dmTakeCost T row cur (dmChoose T row cur).1 ≤ dmTakeCost T row cur m := by
  have start : (dmEntry row cur).target = dmTakeCost T row cur cur := by rw [dmTakeCost, stay, Nat.add_zero]
  obtain ⟨costs, -, least⟩ := foldl_dmConsider (cost := dmTakeCost T row cur) DmMode.all
    (best := (cur, (dmEntry row cur).target)) start
  rw [dmChoose_eq, ← costs]
  exact least m m.mem_all

/-- Where the minimum is below the bound of R298, the mode chosen attains it. -/
theorem dmTakeCost_dmChoose {T : Tables} {row : DmRow} {cur : DmMode} (stay : T.dmSwitch cur cur = 0)
    (finite : dmBestNext T row cur < 2 * dmInf) : dmTakeCost T row cur (dmChoose T row cur).1 = dmBestNext T row cur := by
  refine le_antisymm ?_ (dmBestNext_le T row cur _)
  by_contra above
  have next : dmBestNext T row cur + 1 ≤ dmBestNext T row cur :=
    le_dmBestNext_iff.2 ⟨finite, fun m => (Nat.lt_of_not_le above).trans_le (dmTakeCost_dmChoose_le stay row m)⟩
  omega

/-! ### The backward pass -/

/-- The row of the first position of a message (42_dm_optimizer R298). -/
def dmRowAt (gs1 : Bool) (bytes : List Nat) : DmRow := (dmBackward .given gs1 bytes).headD dmEndRow

/-- The least cost of a message from mode `cur`, as the backward pass computes it (42_dm_optimizer R298). -/
def dmLeast (gs1 : Bool) (bytes : List Nat) (cur : DmMode) : Nat := dmBestNext .given (dmRowAt gs1 bytes) cur

section
variable {gs1 : Bool} {b : Nat} {rest : List Nat} {m cur : DmMode} {len c : Nat}

theorem dmBackward_cons (gs1 : Bool) (b : Nat) (rest : List Nat) :
    dmBackward .given gs1 (b :: rest) = dmRowAt gs1 (b :: rest) :: dmBackward .given gs1 rest := rfl

/-- The row `k` positions on is the row of what remains of the message there. -/
theorem dmBackward_getD (gs1 : Bool) (bytes : List Nat) (k : Nat) :
    (dmBackward .given gs1 bytes).getD k dmEndRow = dmRowAt gs1 (bytes.drop k) := by
  induction bytes generalizing k with
  | nil => cases k <;> simp [dmBackward, dmRowAt]
  | cons b rest ih =>
    cases k with
    | zero => rfl
    | succ k => exact ih k

theorem dmEntry_dmRowAt (gs1 : Bool) (b : Nat) (rest : List Nat) (m : DmMode) :
    dmEntry (dmRowAt gs1 (b :: rest)) m =
      dmBackwardEntry .given gs1 (b :: rest) (dmBackward .given gs1 rest) m := dmEntry_map _ m

/-- A mode with a unit: the unit's codewords and the least cost of what the unit leaves (42_dm_optimizer R298). -/
theorem dmEntry_of_unit (unit : dmUnit .given gs1 m (b :: rest) = some (len, c)) :
    dmEntry (dmRowAt gs1 (b :: rest)) m = ⟨c + dmLeast gs1 (rest.drop (len - 1)) m, len⟩ := by
  simp only [dmEntry_dmRowAt, dmBackwardEntry, unit, dmBackward_getD, dmLeast]

theorem dmEntry_of_no_unit (unit : dmUnit .given gs1 m (b :: rest) = none) :
    dmEntry (dmRowAt gs1 (b :: rest)) m = ⟨dmInf, 0⟩ := by
  simp only [dmEntry_dmRowAt, dmBackwardEntry, unit]

theorem dmTakeCost_of_unit (cur : DmMode) (unit : dmUnit .given gs1 m (b :: rest) = some (len, c)) :
    dmTakeCost .given (dmRowAt gs1 (b :: rest)) cur m =
      Tables.given.dmSwitch cur m + c + dmLeast gs1 (rest.drop (len - 1)) m := by
  rw [dmTakeCost, dmEntry_of_unit unit]
  dsimp only
  omega

theorem dmEntry_dmRowAt_nil (gs1 : Bool) (m : DmMode) : dmEntry (dmRowAt gs1 []) m = ⟨0, 0⟩ :=
  dmEntry_map (fun _ => ⟨0, 0⟩) m

/-- Nothing is left to pay at the end of the message (42_dm_optimizer R298, D18). -/
@[simp] theorem dmLeast_nil (gs1 : Bool) (cur : DmMode) : dmLeast gs1 [] cur = 0 := by
  have stay : dmTakeCost .given (dmRowAt gs1 []) cur cur = 0 := by
    rw [dmTakeCost, dmEntry_dmRowAt_nil, dmSwitch_given_self]
  exact Nat.eq_zero_of_le_zero (stay ▸ dmBestNext_le .given (dmRowAt gs1 []) cur cur)

/-- A first unit in mode `m` and the best of the rest are no cheaper than the least cost. -/
theorem dmLeast_cons_le (cur : DmMode) (unit : dmUnit .given gs1 m (b :: rest) = some (len, c)) :
    dmLeast gs1 (b :: rest) cur ≤ Tables.given.dmSwitch cur m + c + dmLeast gs1 (rest.drop (len - 1)) m :=
  dmTakeCost_of_unit cur unit ▸ dmBestNext_le .given (dmRowAt gs1 (b :: rest)) cur m

end

/-! ### The least cost is finite -/

/-- ASCII takes any byte, at two codewords or fewer (42_dm_optimizer R293). -/
theorem exists_asciiUnit (b : Nat) (rest : List Nat) : ∃ len c, asciiUnit (b :: rest) = some (len, c) ∧ c ≤ 2 := by
  cases rest with
  | nil =>
    simp only [asciiUnit]
    split <;> exact ⟨_, _, rfl, by decide⟩
  | cons b2 rest =>
    simp only [asciiUnit]
    split
    · exact ⟨_, _, rfl, by decide⟩
    · split <;> exact ⟨_, _, rfl, by decide⟩

theorem dmLeast_drop_ascii_le (gs1 : Bool) (bytes : List Nat) (skip : Nat) :
    dmLeast gs1 (bytes.drop skip) .ascii ≤ 2 * bytes.length := by
  induction bytes generalizing skip with
  | nil => simp
  | cons b rest ih =>
    rw [List.length_cons]
    cases skip with
    | zero =>
      obtain ⟨len, c, unit, hc⟩ := exists_asciiUnit b rest
      have step := dmLeast_cons_le (gs1 := gs1) (m := .ascii) .ascii unit
      have later := ih (len - 1)
      rw [dmSwitch_given_self] at step
      rw [List.drop_zero]
      omega
    | succ k =>
      have later := ih k
      rw [List.drop_succ_cons]
      omega

/-- A switch to ASCII and ASCII units to the end bound the least cost. -/
theorem dmLeast_cons_lt (gs1 : Bool) {b : Nat} {rest : List Nat} (short : rest.length ≤ 4096) (cur : DmMode) :
    dmLeast gs1 (b :: rest) cur < dmInf := by
  obtain ⟨len, c, unit, hc⟩ := exists_asciiUnit b rest
  have step := dmLeast_cons_le (gs1 := gs1) (m := .ascii) cur unit
  have later := dmLeast_drop_ascii_le gs1 rest (len - 1)
  have switch := dmSwitch_given_le cur .ascii
  have inf : dmInf = 1048576 := rfl
  omega

/-! ### Every plan costs at least the least cost -/

/-- The cost of a plan bounds the least cost of the bytes past the unit in progress. -/
theorem dmLeast_le_planCost {gs1 : Bool} {bytes : List Nat} {cur : DmMode} {skip : Nat} {plan : List DmMode} {cost : Nat}
    (h : planCost gs1 cur skip plan bytes = some cost) : dmLeast gs1 (bytes.drop skip) cur ≤ cost := by
  induction bytes generalizing cur skip plan cost with
  | nil => simp
  | cons b rest ih =>
    cases plan with
    | nil => cases skip <;> simp [planCost] at h
    | cons m ms =>
      cases skip with
      | succ k => exact ih h
      | zero =>
        cases unit : dmUnit .given gs1 m (b :: rest) with
        | none => simp [planCost, unit] at h
        | some u =>
          obtain ⟨len, c⟩ := u
          simp only [planCost, unit, Option.map_eq_some_iff] at h
          obtain ⟨later, hlater, rfl⟩ := h
          exact (dmLeast_cons_le cur unit).trans (Nat.add_le_add_left (ih hlater) _)

/-! ### The automatic plan costs the least cost -/

/-- The mode that the forward pass takes for the first byte of a message (42_dm_optimizer R300). -/
def dmFirstMode (gs1 : Bool) (bytes : List Nat) (cur : DmMode) : DmMode := (dmChoose .given (dmRowAt gs1 bytes) cur).1

/-- The forward pass over the rows of a message (42_dm_optimizer R300). -/
def dmPlanFrom (gs1 : Bool) (bytes : List Nat) (cur : DmMode) (skip : Nat) : List DmMode :=
  dmForward .given (dmBackward .given gs1 bytes) cur skip

theorem dmBackward_eq_cons (gs1 : Bool) (bytes : List Nat) :
    ∃ row rows, dmBackward .given gs1 bytes = row :: rows := by
  cases bytes with
  | nil => exact ⟨_, _, rfl⟩
  | cons b rest => exact ⟨_, _, rfl⟩

theorem dmPlanFrom_cons_succ (gs1 : Bool) (b : Nat) (rest : List Nat) (cur : DmMode) (k : Nat) :
    dmPlanFrom gs1 (b :: rest) cur (k + 1) = cur :: dmPlanFrom gs1 rest cur k := by
  obtain ⟨next, rows, hnext⟩ := dmBackward_eq_cons gs1 rest
  simp only [dmPlanFrom, dmBackward_cons, hnext, dmForward]

theorem dmPlanFrom_cons_zero (gs1 : Bool) (b : Nat) (rest : List Nat) (cur : DmMode) :
    dmPlanFrom gs1 (b :: rest) cur 0 =
      dmFirstMode gs1 (b :: rest) cur :: dmPlanFrom gs1 rest (dmFirstMode gs1 (b :: rest) cur)
        ((dmEntry (dmRowAt gs1 (b :: rest)) (dmFirstMode gs1 (b :: rest) cur)).source - 1) := by
  obtain ⟨next, rows, hnext⟩ := dmBackward_eq_cons gs1 rest
  simp only [dmPlanFrom, dmBackward_cons, hnext, dmForward, dmFirstMode]

/-- The mode taken has a unit, and that unit with the best of the rest costs the least cost: a mode without one has the target `INF`,
which no message of 4096 bytes reaches. -/
theorem dmFirstMode_unit (gs1 : Bool) {b : Nat} {rest : List Nat} (short : rest.length ≤ 4096) (cur : DmMode) :
    ∃ len c, dmUnit .given gs1 (dmFirstMode gs1 (b :: rest) cur) (b :: rest) = some (len, c) ∧
      Tables.given.dmSwitch cur (dmFirstMode gs1 (b :: rest) cur) + c +
        dmLeast gs1 (rest.drop (len - 1)) (dmFirstMode gs1 (b :: rest) cur) = dmLeast gs1 (b :: rest) cur := by
  have finite : dmLeast gs1 (b :: rest) cur < dmInf := dmLeast_cons_lt gs1 short cur
  have attained : dmTakeCost .given (dmRowAt gs1 (b :: rest)) cur (dmFirstMode gs1 (b :: rest) cur) = dmLeast gs1 (b :: rest) cur :=
    dmTakeCost_dmChoose (dmSwitch_given_self cur) (finite.trans (by decide))
  cases unit : dmUnit .given gs1 (dmFirstMode gs1 (b :: rest) cur) (b :: rest) with
  | none =>
    rw [dmTakeCost, dmEntry_of_no_unit unit] at attained
    dsimp only at attained
    omega
  | some u => exact ⟨u.1, u.2, rfl, (dmTakeCost_of_unit cur unit).symm.trans attained⟩

theorem planCost_dmPlanFrom (gs1 : Bool) {bytes : List Nat} (short : bytes.length ≤ 4096) (cur : DmMode) (skip : Nat) :
    planCost gs1 cur skip (dmPlanFrom gs1 bytes cur skip) bytes = some (dmLeast gs1 (bytes.drop skip) cur) := by
  induction bytes generalizing cur skip with
  | nil => cases skip <;> simp [planCost]
  | cons b rest ih =>
    have shorter : rest.length ≤ 4096 := Nat.le_of_succ_le short
    cases skip with
    | succ k =>
      rw [dmPlanFrom_cons_succ]
      exact ih shorter cur k
    | zero =>
      obtain ⟨len, c, unit, least⟩ := dmFirstMode_unit gs1 shorter cur
      rw [dmPlanFrom_cons_zero, dmEntry_of_unit unit]
      simp only [planCost, unit, ih shorter, Option.map_some, least, List.drop_zero]

/-- Settles O37: the automatic plan costs `dmLeast` of the whole message from ASCII, and no plan costs less. -/
theorem dmAutoPlanOptimal : Obligations.DmAutoPlanOptimal := by
  intro gs1 bytes short
  exact ⟨_, planCost_dmPlanFrom gs1 short .ascii 0, fun _ _ => dmLeast_le_planCost⟩

end Sys2Proof.Machine
end

section
/-! `PDF_OPTIMIZE` and its errors (43_pdf417_optimizer R330, R335): the stored plan, and the raises of the forced modes that
`PDF_OPTIMIZE` and `PDF_ENCODE` share. -/

namespace Sys2Proof.Machine

section
variable {s : State} {e : CmdError} {bytes : List Nat} {k : Nat}

theorem pdfOptimize_of_no_plan {T : Tables} (failed : pdfPlan T s.mode s.message = .error e) : pdfOptimize T s = .raised e s := by
  unfold pdfOptimize
  rw [failed]

/-- What the optimize stage raises, `PDF_ENCODE` raises too: no later stage of it runs (40_control_pipeline R234). -/
theorem raisesError_of_pdfPlan_error (config : checkConfig .pdf s = none) (failed : pdfPlan .given s.mode s.message = .error e)
    {i : Instr} (hi : i ∈ [Instr.pdfOptimize, .pdfEncode]) : RaisesError i s e.code.number e.detail e.index := by
  have raised : pdfOptimize .given s = .raised e s := pdfOptimize_of_no_plan failed
  have pipeline : pdfPipeline .given s = .raised e s := by simp [pdfPipeline, raised]
  obtain rfl | rfl : i = .pdfOptimize ∨ i = .pdfEncode := by simpa using hi
  · exact raisesError_of_exec (congrArg Host.Outcome.next (firstStage_raised config raised))
  · exact raisesError_of_exec (congrArg Host.Outcome.next (firstStage_raised config pipeline))

theorem pdfPlan_numeric_error (T : Tables) {mode : Nat} (hmode : mode = 1) (found : firstFailing isDigit bytes 0 = some k) :
    pdfPlan T mode bytes = .error ⟨.charset, 1, BitVec.ofNat 32 k⟩ := by
  simp [hmode, pdfPlan, PdfClass.ofCode, pdfForcedPlan, found]

theorem pdfPlan_text_error (T : Tables) {mode : Nat} (hmode : mode = 2)
    (found : firstFailing (fun b => pdfClass b != .byte) bytes 0 = some k) :
    pdfPlan T mode bytes = .error ⟨.charset, 2, BitVec.ofNat 32 k⟩ := by
  simp [hmode, pdfPlan, PdfClass.ofCode, pdfForcedPlan, found]

/-- The successful case: what stands in `PLAN` after the codes and the sentinel are stored, and the frame (10_state R77). -/
theorem exec_pdfOptimize_of_plan (config : checkConfig .pdf s = none) {classes : List PdfClass}
    (hplan : pdfPlan .given s.mode s.message = .ok classes) :
    ∃ t, exec .pdfOptimize s = .next t ∧ classes.length = s.n ∧
      (∀ k, k < s.n → (t.plan.get k).toNat = (classes.getD k .byte).code) ∧ t.plan.get s.n = 0xF ∧
      (∀ k, s.n < k → t.plan.get k = s.plan.get k) ∧ t.res.planLen.toNat = s.n + 1 ∧
      t = { s with
        plan := t.plan, res := { s.res with planLen := t.res.planLen }, pipeSym := .pdf, pipeStage := .planned
        done := true, latch := none } := by
  have optimized := (pdfOptimize_ok_iff .given s _).2 ⟨classes, hplan, rfl⟩
  have length : classes.length = s.n := (length_of_pdfPlan hplan).trans s.length_message
  have codesLength : (classes.map PdfClass.code).length = s.n := (List.length_map _).trans length
  have fits : (classes.map PdfClass.code).length ≤ Config.inMax := codesLength.trans_le (n_le_of_checkConfig config)
  refine ⟨_, congrArg Host.Outcome.next (firstStage_ok config optimized), length, fun k hk => ?codes, ?sentinel,
    fun k hk => ?above, ?planLen, rfl⟩
  case codes =>
    have stored := State.get_plan_storePlan (s := s) (codesLength.symm ▸ hk) fits (List.forall_mem_map.2 fun c _ => c.code_lt)
    have code : (classes.map PdfClass.code).getD k 0 = (classes.getD k .byte).code := by
      rw [List.getD_eq_getElem _ _ (codesLength.symm ▸ hk), List.getElem_map, List.getD_eq_getElem _ _ (length.symm ▸ hk)]
    exact stored.trans code
  case sentinel => exact codesLength ▸ State.get_plan_storePlan_sentinel (s := s) fits
  case above => exact State.get_plan_storePlan_above (codesLength.trans_lt hk)
  case planLen => exact codesLength ▸ State.toNat_planLen_storePlan (s := s) fits

end

/-- Settles O43: the rule stores the plan, whose codes are those of as many classes as the message has bytes; a forced plan names the
first byte its scan stops at. -/
theorem pdfOptimizeResult : Obligations.PdfOptimizeResult := by
  intro s config
  refine ⟨fun classes hplan => exec_pdfOptimize_of_plan config hplan,
    fun i hi k hk => ⟨fun hmode bad good => ?_, fun hmode bad good => ?_⟩⟩
  · have found : firstFailing isDigit s.message 0 = some k := State.firstFailing_message hk (Bool.eq_false_iff.2 bad) good
    exact raisesError_of_pdfPlan_error config (pdfPlan_numeric_error .given hmode found) hi
  · have found : firstFailing (fun b => pdfClass b != .byte) s.message 0 = some k :=
      State.firstFailing_message hk (bne_eq_false_iff_eq.2 bad) fun j hj => bne_iff_ne.2 (good j hj)
    exact raisesError_of_pdfPlan_error config (pdfPlan_text_error .given hmode found) hi

end Sys2Proof.Machine
end

section
/-! The automatic PDF417 plan only turns chunks into bytes (43_pdf417_optimizer R330 to R334): a merge keeps the plan that a chunk
list stands for, a conversion changes classes to Byte only, and a chunk that is alone is never converted. -/

namespace Sys2Proof.Machine

/-! ### What a merge and a conversion do to the plan -/

@[simp] theorem pdfExpand_nil : pdfExpand [] = [] := rfl

@[simp] theorem pdfExpand_cons (c : PdfChunk) (rest : List PdfChunk) :
    pdfExpand (c :: rest) = List.replicate c.2 c.1 ++ pdfExpand rest := rfl

theorem pdfExpand_pdfJoin (c : PdfChunk) (chunks : List PdfChunk) : pdfExpand (pdfJoin c chunks) = pdfExpand (c :: chunks) := by
  cases chunks with
  | nil => rfl
  | cons d rest =>
    by_cases same : c.1 = d.1
    · simp [pdfJoin, same, ← List.append_assoc]
    · rw [pdfJoin, if_neg same]

theorem pdfMerge_cons (c : PdfChunk) (rest : List PdfChunk) : pdfMerge (c :: rest) = pdfJoin c (pdfMerge rest) := rfl

theorem pdfExpand_pdfMerge (chunks : List PdfChunk) : pdfExpand (pdfMerge chunks) = pdfExpand chunks := by
  induction chunks with
  | nil => rfl
  | cons c rest ih => rw [pdfMerge_cons, pdfExpand_pdfJoin, pdfExpand_cons, ih, pdfExpand_cons]

theorem pdfExpand_pdfChunks (bytes : List Nat) : pdfExpand (pdfChunks bytes) = bytes.map pdfClass := by
  rw [pdfChunks, pdfExpand_pdfMerge]
  induction bytes with
  | nil => rfl
  | cons b rest ih => rw [List.map_cons, pdfExpand_cons, ih]; rfl

/-- Every class of `old` is kept in `new` or has become Byte. -/
def OnlyToByte (new old : List PdfClass) : Prop :=
  ∀ k, new.getD k .byte = old.getD k .byte ∨ new.getD k .byte = .byte

theorem OnlyToByte.refl (plan : List PdfClass) : OnlyToByte plan plan := fun _ => .inl rfl

theorem OnlyToByte.trans {a b c : List PdfClass} (hab : OnlyToByte a b) (hbc : OnlyToByte b c) : OnlyToByte a c := fun k =>
  (hab k).elim (fun kept => kept.symm ▸ hbc k) .inr

theorem OnlyToByte.append {a b c d : List PdfClass} (hab : OnlyToByte a b) (length : a.length = b.length) (hcd : OnlyToByte c d) :
    OnlyToByte (a ++ c) (b ++ d) := by
  intro k
  rcases Nat.lt_or_ge k a.length with front | back
  · rw [List.getD_append _ _ _ _ front, List.getD_append _ _ _ _ (length ▸ front)]
    exact hab k
  · rw [List.getD_append_right _ _ _ _ back, List.getD_append_right _ _ _ _ (length ▸ back), ← length]
    exact hcd (k - a.length)

theorem onlyToByte_replicate_byte (n : Nat) (old : List PdfClass) : OnlyToByte (List.replicate n .byte) old := fun k =>
  .inr (List.getD_eq_getElem?_getD.trans (List.getElem?_getD_replicate_default_eq PdfClass.byte n k))

/-- A conversion makes the bytes of one chunk Byte and leaves the others (43_pdf417_optimizer R334). -/
theorem onlyToByte_pdfExpand_set {chunks : List PdfChunk} {i len : Nat} {c : PdfClass} (h : chunks[i]? = some (c, len)) :
    OnlyToByte (pdfExpand (chunks.set i (.byte, len))) (pdfExpand chunks) := by
  induction chunks generalizing i with
  | nil => cases h
  | cons d rest ih =>
    cases i with
    | zero =>
      cases h
      exact (onlyToByte_replicate_byte len _).append (by simp) (.refl _)
    | succ i => exact (OnlyToByte.refl (List.replicate d.2 d.1)).append rfl (ih h)

theorem onlyToByte_pdfPass (T : Tables) (kind : PdfClass) (fuel : Nat) (chunks : List PdfChunk) (i : Nat) :
    OnlyToByte (pdfExpand (pdfPass T kind fuel chunks i)) (pdfExpand chunks) := by
  induction fuel generalizing chunks i with
  | zero => exact .refl _
  | succ fuel ih =>
    unfold pdfPass
    split
    · exact .refl _
    next c len hc =>
      split
      · have merged := ih (pdfMerge (chunks.set i (.byte, len))) (i - 1)
        rw [pdfExpand_pdfMerge] at merged
        exact merged.trans (onlyToByte_pdfExpand_set hc)
      · exact ih chunks (i + 1)

theorem onlyToByte_pdfAutoPlan (T : Tables) (bytes : List Nat) : OnlyToByte (pdfAutoPlan T bytes) (bytes.map pdfClass) := by
  rw [← pdfExpand_pdfChunks]
  exact (onlyToByte_pdfPass T .text _ _ 0).trans (onlyToByte_pdfPass T .numeric _ _ 0)

/-! ### A message of one class -/

theorem pdfMerge_replicate_succ (c : PdfClass) (n : Nat) : pdfMerge (List.replicate (n + 1) (c, 1)) = [(c, n + 1)] := by
  induction n with
  | zero => rfl
  | succ n ih =>
    rw [List.replicate_succ, pdfMerge_cons, ih, pdfJoin, if_pos rfl, Nat.add_comm 1]

/-- A chunk between two edges is never converted where its threshold is 0 (43_pdf417_optimizer R333). -/
theorem pdfPass_singleton {T : Tables} {kind : PdfClass} (alone : T.pdfChunkThresh kind none none = 0) (fuel : Nat) (c : PdfChunk)
    (i : Nat) : pdfPass T kind fuel [c] i = [c] := by
  induction fuel generalizing i with
  | zero => rfl
  | succ fuel ih =>
    cases i with
    | zero => simp [pdfPass, pdfBefore, alone, ih]
    | succ i => simp [pdfPass]

theorem pdfThreshold_alone (kind : PdfClass) : Tables.given.pdfChunkThresh kind none none = 0 := by
  cases kind <;> rfl

theorem pdfAutoPlan_of_one_class {bytes : List Nat} {c : PdfClass} (same : ∀ b ∈ bytes, pdfClass b = c) :
    pdfAutoPlan .given bytes = List.replicate bytes.length c := by
  cases bytes with
  | nil => rfl
  | cons b rest =>
    have units : ((b :: rest).map fun x => (pdfClass x, 1)) = List.replicate (rest.length + 1) (c, 1) :=
      List.eq_replicate_iff.2 ⟨List.length_map _, List.forall_mem_map.2 fun x hx => by rw [same x hx]⟩
    have chunks : pdfChunks (b :: rest) = [(c, rest.length + 1)] := by rw [pdfChunks, units, pdfMerge_replicate_succ]
    have kept : pdfOptimizeChunks .given (pdfChunks (b :: rest)) = [(c, rest.length + 1)] := by
      rw [chunks, pdfOptimizeChunks, pdfPass_singleton (pdfThreshold_alone .numeric), pdfPass_singleton (pdfThreshold_alone .text)]
    rw [pdfAutoPlan, kept, pdfExpand_cons, pdfExpand_nil, List.append_nil, List.length_cons]

/-- Settles O44: every pass only turns chunks into bytes, and a message of one class is a single chunk. -/
theorem pdfAutoPlan_only_converts_to_byte : Obligations.PdfAutoPlan := by
  intro bytes
  refine ⟨length_pdfAutoPlan .given bytes, fun k _ => ?_, fun c => pdfAutoPlan_of_one_class⟩
  have atByte : (bytes.map pdfClass).getD k .byte = pdfClass (bytes.getD k 0) := List.getD_map bytes 0 pdfClass
  exact atByte ▸ onlyToByte_pdfAutoPlan .given bytes k

end Sys2Proof.Machine
end

section
/-! `DM_PRODUCE` (44_dm_producer R360, R361, R374 to R376): the bounds of the size table, the size a message needs, that the unlatch and
the pads fill exactly `D` codewords, and the command itself. -/

namespace Sys2Proof.Machine

/-! ### The table of sizes -/

/-- Every index reads a row of `DM_SIZES` (44_dm_producer R360; log 18). -/
theorem dmSize_mem (size : Nat) : dmSize .given size ∈ dmSizes := by
  have inRange_or_first : ∀ i, dmSizes.getD i ⟨1, 1, 8, 8, 3, 5, 1⟩ ∈ dmSizes := by
    intro i
    by_cases hi : i < dmSizes.length
    · rw [List.getD_eq_getElem _ _ hi]
      exact List.getElem_mem hi
    · rw [List.getD_eq_default _ _ (Nat.le_of_not_lt hi)]
      decide
  exact inRange_or_first (size - 1)

theorem dmSize_data_le (size : Nat) : (dmSize .given size).data ≤ 1558 :=
  (by decide : ∀ z ∈ dmSizes, z.data ≤ 1558) _ (dmSize_mem size)

theorem dmSize_total_le (size : Nat) : (dmSize .given size).data + (dmSize .given size).parity ≤ 2178 :=
  (by decide : ∀ z ∈ dmSizes, z.data + z.parity ≤ 2178) _ (dmSize_mem size)

/-! ### Size selection -/

section
variable {T : Tables} {size need n : Nat}

/-- Automatic selection scans the sizes 1 to 24 in their order (44_dm_producer R361). -/
theorem dmSelect_auto_iff : dmSelect T 0 need = .ok n ↔
    1 ≤ n ∧ n ≤ 24 ∧ need ≤ (dmSize T n).data ∧ ∀ r, 1 ≤ r → r < n → (dmSize T r).data < need := by
  have scan : dmSelect T 0 need = .ok n ↔
      ((List.range 24).map (· + 1)).find? (fun s => need ≤ (dmSize T s).data) = some n := by
    unfold dmSelect
    rw [if_pos rfl]
    cases ((List.range 24).map (· + 1)).find? (fun s => need ≤ (dmSize T s).data) with
    | none => simp
    | some k => simp
  rw [scan, List.find?_map, Option.map_eq_some_iff]
  simp only [List.find?_range_eq_some, Function.comp, decide_eq_true_eq, List.mem_range, Bool.not_eq_true', decide_eq_false_iff_not,
    Nat.not_le]
  constructor
  · rintro ⟨i, ⟨fits, inside, smaller⟩, rfl⟩
    refine ⟨Nat.succ_pos i, inside, fits, fun r h1 hr => ?_⟩
    simpa [Nat.sub_add_cancel h1] using smaller (r - 1) (by omega)
  · rintro ⟨h1, h24, fits, smaller⟩
    refine ⟨n - 1, ⟨?_, by omega, fun j hj => smaller (j + 1) (Nat.succ_pos j) (by omega)⟩, Nat.sub_add_cancel h1⟩
    rwa [Nat.sub_add_cancel h1]

theorem dmSelect_auto_error (large : ∀ r, (dmSize T r).data < need) : dmSelect T 0 need = .error (errorAt .capacity 2) := by
  have none_fits : ((List.range 24).map (· + 1)).find? (fun s => need ≤ (dmSize T s).data) = none :=
    List.find?_eq_none.2 fun r _ => by simpa using large r
  unfold dmSelect
  rw [if_pos rfl, none_fits]

theorem dmSelect_requested (requested : size ≠ 0) (fits : need ≤ (dmSize T size).data) : dmSelect T size need = .ok size := by
  unfold dmSelect
  rw [if_neg requested, if_neg (Nat.not_lt.2 fits)]

theorem dmSelect_requested_error (requested : size ≠ 0) (large : (dmSize T size).data < need) :
    dmSelect T size need = .error (errorAt .capacity 3) := by
  unfold dmSelect
  rw [if_neg requested, if_pos large]

/-- The selected size holds the message (44_dm_producer R361). -/
theorem le_data_of_dmSelect (selected : dmSelect T size need = .ok n) : need ≤ (dmSize T n).data := by
  by_cases requested : size = 0
  · subst requested
    exact (dmSelect_auto_iff.1 selected).2.2.1
  · rcases Nat.lt_or_ge (dmSize T size).data need with large | fits
    · rw [dmSelect_requested_error requested large] at selected
      cases selected
    · rw [dmSelect_requested requested fits] at selected
      cases selected
      exact fits

end

/-- Settles O39: the scan stops at the first square size that holds the message, and none of the table holds more than 1558. -/
theorem dmSizeSelection : Obligations.DmSizeSelection := by
  intro size need
  exact ⟨fun _ => dmSelect_auto_iff, fun long => dmSelect_auto_error fun r => (dmSize_data_le r).trans_lt long,
    dmSelect_requested, dmSelect_requested_error⟩

/-! ### The data codewords -/

section
variable {e : DmEmit} {d : Nat}

theorem length_dmUnlatch_le (m : DmMode) : (dmUnlatch m).length ≤ 1 := by cases m <;> decide

/-- The unlatch is one codeword, and is dropped where no codeword is left for it (44_dm_producer R374). -/
theorem length_dmEndOfData_le (fits : e.out.length ≤ d) : (dmEndOfData e d).length ≤ d := by
  have unlatch := length_dmUnlatch_le e.cur
  unfold dmEndOfData
  split
  · rw [List.length_append]
    omega
  · exact fits

theorem out_prefix_dmEndOfData (e : DmEmit) (d : Nat) : e.out <+: dmEndOfData e d := by
  unfold dmEndOfData
  split
  · exact List.prefix_append _ _
  · exact List.prefix_rfl

theorem prefix_dmPadTo (out : List Nat) (d : Nat) : out <+: dmPadTo out d := List.prefix_append _ _

theorem length_dmPadTo {out : List Nat} (fits : out.length ≤ d) : (dmPadTo out d).length = d := by
  simp only [dmPadTo, List.length_append, List.length_map, List.length_range]
  omega

/-- The message, the unlatch and the pads fill the symbol (44_dm_producer R374 to R376). -/
theorem length_dmDataCodewords (fits : e.out.length ≤ d) : (dmDataCodewords e d).length = d :=
  length_dmPadTo (length_dmEndOfData_le fits)

theorem out_prefix_dmDataCodewords (e : DmEmit) (d : Nat) : e.out <+: dmDataCodewords e d :=
  (out_prefix_dmEndOfData e d).trans (prefix_dmPadTo _ d)

end

/-! ### The command -/

section
variable {sym : PipeSym} {needs leaves : PipeStage} {rule : State → CmdResult} {s u : State}

/-- A later stage whose rule keeps the symbology writes the pipeline stage only, besides what its rule and its completion write
(40_control_pipeline R203, R210). -/
theorem laterStage_ok_of_same_sym (hsym : s.pipeSym = sym) (hstage : s.pipeStage = needs) (config : checkConfig sym s = none)
    (hr : rule s = .ok u) (same : u.pipeSym = s.pipeSym) :
    laterStage sym needs leaves rule s = { u with pipeStage := leaves, done := true, latch := none } := by
  rw [laterStage_ok hsym hstage config hr, ← hsym, ← same]
  rfl

end

section
variable {s : State} {e : CmdError}

theorem dmProduce_of_no_size {T : Tables} (none_fits : dmSelect T s.size (s.dmEmitted T).out.length = .error e) :
    dmProduce T s = .raised e s := by
  simp only [dmProduce, none_fits]

theorem raisesError_of_dmSelect_error (hsym : s.pipeSym = .dm) (hstage : s.pipeStage = .planned) (config : checkConfig .dm s = none)
    (none_fits : dmSelect .given s.size (s.dmEmitted .given).out.length = .error e) :
    RaisesError .dmProduce s e.code.number e.detail e.index :=
  raisesError_of_exec (congrArg Host.Outcome.next (laterStage_raised hsym hstage config (dmProduce_of_no_size none_fits)))

end

/-- Settles O38: the rule fails exactly where size selection does; where a size is selected, the data codewords are `D` in number,
start with what the segments emit, and every result fits its register. -/
theorem dmProduceResult : Obligations.DmProduceResult := by
  intro s hsym hstage config out
  refine ⟨fun auto long => ?_, fun requested large => ?_, fun size selected => ?_⟩
  · have none_fits : dmSelect .given s.size out.length = .error (errorAt .capacity 2) :=
      auto ▸ dmSelect_auto_error fun r => (dmSize_data_le r).trans_lt long
    exact raisesError_of_dmSelect_error hsym hstage config none_fits
  · exact raisesError_of_dmSelect_error hsym hstage config (dmSelect_requested_error requested large)
  · intro z cws
    have fits : out.length ≤ z.data := le_data_of_dmSelect selected
    have data : z.data ≤ 1558 := dmSize_data_le size
    have total : z.data + z.parity ≤ 2178 := dmSize_total_le size
    have length : cws.length = z.data := length_dmDataCodewords fits
    have produced := (dmProduce_ok_iff .given s _).2 ⟨size, selected, rfl⟩
    have msgReg : (BitVec.ofNat 13 out.length).toNat = out.length := toNat_of_eq_ofNat rfl (by omega)
    have dataReg : (BitVec.ofNat 13 z.data).toNat = z.data := toNat_of_eq_ofNat rfl (by omega)
    refine ⟨_, congrArg Host.Outcome.next (laterStage_ok_of_same_sym hsym hstage config produced rfl), length,
      out_prefix_dmDataCodewords _ _, fun k hk => ?_, fun k hk => ?_, msgReg, dataReg, ?_, toNat_of_eq_ofNat rfl (by omega),
      toNat_of_eq_ofNat rfl (dmSelect_lt selected s.size_lt), rfl⟩
    · exact (Buffer.get_writeNats s.cw 0 k cws).trans (if_pos ⟨Nat.zero_le k, by omega, by omega⟩)
    · exact Buffer.get_writeNats_of_not_mem s.cw 0 k cws (.inr (by omega))
    · exact (msgReg.trans_le fits).trans dataReg.ge

end Sys2Proof.Machine
end

section
/-! `DM_ECC` (44_dm_producer R380, R390): the interleaved parity position by position, the codewords with their parity in `CW`, and the
legacy permutation of the largest square size. -/

namespace Sys2Proof.Machine

/-! ### Interleaving -/

section
variable {blocks : List (List Nat)} {len : Nat}

theorem interleave_succ (blocks : List (List Nat)) (len : Nat) :
    interleave blocks (len + 1) = interleave blocks len ++ blocks.map fun p => p.getD len 0 := by
  simp [interleave, List.range_succ]

theorem length_interleave (blocks : List (List Nat)) (len : Nat) : (interleave blocks len).length = len * blocks.length := by
  induction len with
  | zero => rw [Nat.zero_mul]; rfl
  | succ len ih => rw [interleave_succ, List.length_append, ih, List.length_map, Nat.succ_mul]

/-- Position `k·b + j` holds symbol `k` of block `j` (44_dm_producer R390). -/
theorem getD_interleave {k j : Nat} (hk : k < len) (hj : j < blocks.length) :
    (interleave blocks len).getD (k * blocks.length + j) 0 = (blocks.getD j []).getD k 0 := by
  induction len with
  | zero => exact absurd hk (Nat.not_lt_zero k)
  | succ len ih =>
    rw [interleave_succ]
    rcases Nat.lt_succ_iff_lt_or_eq.1 hk with earlier | rfl
    · have front : k * blocks.length + j < (interleave blocks len).length := by
        have rows : (k + 1) * blocks.length ≤ len * blocks.length := Nat.mul_le_mul_right _ earlier
        rw [Nat.succ_mul] at rows
        rw [length_interleave]
        omega
      rw [List.getD_append _ _ _ _ front, ih earlier]
    · have back : k * blocks.length + j - (interleave blocks k).length = j := by rw [length_interleave, Nat.add_sub_cancel_left]
      rw [List.getD_append_right _ _ _ _ (by rw [length_interleave]; omega), back,
        List.getD_eq_getElem _ _ (by rwa [List.length_map]), List.getElem_map, List.getD_eq_getElem _ _ hj]

theorem mem_interleave {w : Nat} (h : ∀ p ∈ blocks, ∀ v ∈ p, v ≤ w) : ∀ v ∈ interleave blocks len, v ≤ w := by
  intro v hv
  obtain ⟨k, -, hv⟩ := List.mem_flatMap.1 hv
  obtain ⟨p, hp, rfl⟩ := List.mem_map.1 hv
  exact getD_le_of_mem_le (h p hp) k

end

/-! ### The parity of a symbol -/

/-- Block `j` spelled out (44_dm_producer R390). -/
theorem everyNth_eq {xs : List Nat} {n : Nat} (length : xs.length = n) (j b : Nat) :
    everyNth xs j b = (List.range ((n - j + b - 1) / b)).map fun i => xs.getD (j + i * b) 0 := by
  subst length
  rfl

/-- The parity of block `j` of the data codewords (44_dm_producer R390). -/
def dmBlockParity (z : DmSize) (data : List Nat) (j : Nat) : List Nat :=
  (rsParities rsDm (z.parity / z.blocks) [everyNth (data.map (· % 256)) j z.blocks]).flatten

section
variable {z : DmSize} {data : List Nat} {j k : Nat}

theorem dmParity_eq_interleave (z : DmSize) (data : List Nat) :
    dmParity z data = interleave ((List.range z.blocks).map (dmBlockParity z data)) (z.parity / z.blocks) := by
  have blockwise : ∀ blocks : List (List Nat), rsParities rsDm (z.parity / z.blocks) blocks =
      blocks.map fun block => (rsParities rsDm (z.parity / z.blocks) [block]).flatten := fun blocks => by simp [rsParities]
  have interleaved : dmParity z data = interleave (rsParities rsDm (z.parity / z.blocks)
      ((List.range z.blocks).map fun j => everyNth (data.map (· % 256)) j z.blocks)) (z.parity / z.blocks) := rfl
  rw [interleaved, blockwise, List.map_map]
  rfl

theorem length_dmParity (z : DmSize) (data : List Nat) : (dmParity z data).length = z.parity / z.blocks * z.blocks := by
  rw [dmParity_eq_interleave, length_interleave, List.length_map, List.length_range]

theorem getD_dmParity (hk : k < z.parity / z.blocks) (hj : j < z.blocks) :
    (dmParity z data).getD (k * z.blocks + j) 0 = (dmBlockParity z data j).getD k 0 := by
  have count : ((List.range z.blocks).map (dmBlockParity z data)).length = z.blocks := by simp
  have symbol := getD_interleave (blocks := (List.range z.blocks).map (dmBlockParity z data)) hk (count.symm ▸ hj)
  have block : ((List.range z.blocks).map (dmBlockParity z data)).getD j [] = dmBlockParity z data j := by
    rw [List.getD_eq_getElem _ _ (count.symm ▸ hj), List.getElem_map, List.getElem_range]
  rwa [count, block, ← dmParity_eq_interleave] at symbol

/-- The parity is over the field of 256 symbols (41_rs_engine R260). -/
theorem mem_dmBlockParity : ∀ v ∈ dmBlockParity z data j, v ≤ 255 := by
  simp only [dmBlockParity, rsParities, List.map_singleton, List.flatten_singleton]
  exact fun v hv => Nat.le_of_lt_succ (mem_lfsrParity (mem_alpha_buildField (by decide) rsDm.poly) _ _ _ _ _ v hv)

theorem mem_dmParity : ∀ v ∈ dmParity z data, v < 2 ^ 10 := by
  rw [dmParity_eq_interleave]
  intro v hv
  refine (mem_interleave (w := 255) (fun p hp => ?_) v hv).trans_lt (by decide)
  obtain ⟨i, -, rfl⟩ := List.mem_map.1 hp
  exact mem_dmBlockParity

end

/-! ### The codewords with their parity -/

/-- The row of the selected size (10_state R67, 44_dm_producer R360). -/
abbrev State.dmRow (s : State) : DmSize := dmSize .given s.selLow

/-- The data codewords in `CW` (44_dm_producer R390). -/
abbrev State.dmData (s : State) : List Nat := s.cw.nats 0 s.dmRow.data

/-- The parity of block `j` of the data codewords in `CW` (44_dm_producer R390). -/
abbrev State.dmBlockParity (s : State) (j : Nat) : List Nat := Machine.dmBlockParity s.dmRow s.dmData j

/-- `CW` after the parity is written, before `LEGACY144_PERM` (44_dm_producer R390). -/
def State.dmProtected (s : State) : CwBuffer := s.cw.writeNats s.dmRow.data (dmParity s.dmRow s.dmData)

section
variable (s : State) {k j : Nat}

/-- Every block has as many parity codewords as the others (44_dm_producer R360, R390). -/
theorem State.dmRow_parity_eq : s.dmRow.parity = s.dmRow.parity / s.dmRow.blocks * s.dmRow.blocks :=
  (by decide : ∀ z ∈ dmSizes, z.parity = z.parity / z.blocks * z.blocks) _ (dmSize_mem s.selLow)

theorem State.dmRow_blocks_pos : 0 < s.dmRow.blocks := (by decide : ∀ z ∈ dmSizes, 0 < z.blocks) _ (dmSize_mem s.selLow)

theorem State.dmRow_total_le : s.dmRow.data + s.dmRow.parity ≤ 2178 := dmSize_total_le s.selLow

theorem State.length_dmParity : (dmParity s.dmRow s.dmData).length = s.dmRow.parity :=
  (Machine.length_dmParity _ _).trans s.dmRow_parity_eq.symm

theorem State.get_dmProtected_data (hk : k < s.dmRow.data) : s.dmProtected.get k = s.cw.get k :=
  Buffer.get_writeNats_of_not_mem _ _ _ _ (.inl hk)

theorem State.get_dmProtected_above (hk : s.dmRow.data + s.dmRow.parity ≤ k) : s.dmProtected.get k = s.cw.get k :=
  Buffer.get_writeNats_of_not_mem _ _ _ _ (.inr (by rwa [State.length_dmParity]))

theorem State.toNat_get_dmProtected_parity (hk : k < s.dmRow.parity / s.dmRow.blocks) (hj : j < s.dmRow.blocks) :
    (s.dmProtected.get (s.dmRow.data + k * s.dmRow.blocks + j)).toNat = (s.dmBlockParity j).getD k 0 := by
  have total := s.dmRow_total_le
  have inside : k * s.dmRow.blocks + j < s.dmRow.parity := by
    have rows : (k + 1) * s.dmRow.blocks ≤ s.dmRow.parity / s.dmRow.blocks * s.dmRow.blocks := Nat.mul_le_mul_right _ hk
    rw [← s.dmRow_parity_eq, Nat.succ_mul] at rows
    omega
  rw [Nat.add_assoc]
  refine (Buffer.toNat_get_writeNats s.cw ?_ ?_ mem_dmParity).trans (getD_dmParity hk hj)
  · rwa [State.length_dmParity]
  · rw [State.length_dmParity]
    omega

/-- The codewords by position: parity position `p` is symbol `p / b` of block `p % b` (44_dm_producer R390). -/
theorem State.get_dmProtected (inside : k < s.dmRow.data + s.dmRow.parity) :
    s.dmProtected.get k = if k < s.dmRow.data then s.cw.get k else
      BitVec.ofNat 10 ((s.dmBlockParity ((k - s.dmRow.data) % s.dmRow.blocks)).getD ((k - s.dmRow.data) / s.dmRow.blocks) 0) := by
  split
  next data => exact s.get_dmProtected_data data
  next parity =>
    generalize hp : k - s.dmRow.data = p
    have symbol : p / s.dmRow.blocks < s.dmRow.parity / s.dmRow.blocks :=
      Nat.div_lt_of_lt_mul (by rw [Nat.mul_comm, ← s.dmRow_parity_eq]; omega)
    have written := s.toNat_get_dmProtected_parity symbol (Nat.mod_lt p s.dmRow_blocks_pos)
    have position : s.dmRow.data + p / s.dmRow.blocks * s.dmRow.blocks + p % s.dmRow.blocks = k := by
      rw [Nat.add_assoc, Nat.div_add_mod']
      omega
    rw [position] at written
    rw [← written, BitVec.ofNat_toNat, BitVec.setWidth_eq]

end

/-! ### The legacy permutation -/

theorem legacy144Source_lt {k : Nat} (hk : k < 2178) : legacy144Source k < 2178 := by
  unfold legacy144Source
  rw [dif_pos hk]
  exact Fin.isLt _

section
variable (cw : CwBuffer) {n k : Nat}

/-- Position `k` of the permuted sequence takes what position `legacy144Source k` held (44_dm_producer R380; log 8). -/
theorem get_write_legacy144 (hn : n ≤ 4096) (hk : k < n) (source : legacy144Source k < n) :
    (cw.write 0 (legacy144 (cw.range 0 n))).get k = cw.get (legacy144Source k) := by
  have written := Buffer.get_write_of_mem cw 0 k (legacy144 (cw.range 0 n)) (by simpa [legacy144] using hk) (by omega)
  rw [Nat.zero_add] at written
  rw [written]
  simp [legacy144, Buffer.range_eq, source]

theorem get_write_legacy144_above (hk : n ≤ k) : (cw.write 0 (legacy144 (cw.range 0 n))).get k = cw.get k :=
  Buffer.get_write_of_not_mem _ _ _ _ (.inr (by simpa [legacy144] using hk))

end

/-! ### The command -/

/-- `LEGACY144` applies: the option is set and the largest square size is selected (44_dm_producer R380). -/
def State.usesLegacy144 (s : State) : Prop := s.cfg.symCfg.legacy144 = true ∧ s.selLow = 24

/-- What the ECC stage leaves, with `cw` in `CW` (44_dm_producer R390). -/
def State.dmEccState (s : State) (cw : CwBuffer) : State :=
  { s with cw := cw, res := { s.res with cwTotal := BitVec.ofNat 13 (s.dmRow.data + s.dmRow.parity) } }

section
variable {s : State}

theorem State.dmRow_total_of_legacy (legacy : s.usesLegacy144) : s.dmRow.data + s.dmRow.parity = 2178 := by
  rw [State.dmRow, legacy.2]
  rfl

theorem dmEcc_of_not_legacy (plain : ¬ s.usesLegacy144) : dmEcc .given s = .ok (s.dmEccState s.dmProtected) := by
  unfold State.usesLegacy144 at plain
  simp only [dmEcc, if_neg plain]
  rfl

theorem dmEcc_of_legacy (legacy : s.usesLegacy144) :
    dmEcc .given s = .ok (s.dmEccState (s.dmProtected.write 0 (legacy144 (s.dmProtected.range 0 2178)))) := by
  have total := State.dmRow_total_of_legacy legacy
  unfold State.usesLegacy144 at legacy
  simp only [dmEcc, if_pos legacy, ← total]
  rfl

end

/-- Settles O40: the parity is interleaved after the data, and where `LEGACY144` applies the 2178 codewords are then permuted. -/
theorem dmEccResult : Obligations.DmEccResult := by
  intro s hsym hstage config _ _ z b eb bytes block par plain legacy
  have blockParity : par = s.dmBlockParity := funext fun j => by
    have length : bytes.length = z.data := by simp [bytes]
    exact congrArg (fun xs => (rsParities rsDm eb [xs]).flatten) (everyNth_eq length j b).symm
  have inOrder : ∀ k, k < z.data + z.parity → plain k = s.dmProtected.get k := fun k hk => by
    simp only [plain, blockParity]
    exact (s.get_dmProtected hk).symm
  have cwTotal : (BitVec.ofNat 13 (z.data + z.parity)).toNat = z.data + z.parity :=
    toNat_of_eq_ofNat rfl (s.dmRow_total_le.trans_lt (by decide))
  by_cases hlegacy : legacy
  · have total : z.data + z.parity = 2178 := State.dmRow_total_of_legacy hlegacy
    refine ⟨_, congrArg Host.Outcome.next (laterStage_ok_of_same_sym hsym hstage config (dmEcc_of_legacy hlegacy) rfl),
      s.dmRow_parity_eq, fun other => absurd hlegacy other, fun _ k hk => ?_, fun k hk => ?_, cwTotal, rfl⟩
    · have source := legacy144Source_lt hk
      exact (get_write_legacy144 s.dmProtected (by decide) hk source).trans (inOrder _ (source.trans_eq total.symm)).symm
    · exact (get_write_legacy144_above s.dmProtected (total.symm.trans_le hk)).trans (s.get_dmProtected_above hk)
  · refine ⟨_, congrArg Host.Outcome.next (laterStage_ok_of_same_sym hsym hstage config (dmEcc_of_not_legacy hlegacy) rfl),
      s.dmRow_parity_eq, fun _ => ⟨fun k hk => s.get_dmProtected_data hk, fun k j hk hj => ?_⟩, fun h => absurd h hlegacy,
      fun k hk => s.get_dmProtected_above hk, cwTotal, rfl⟩
    exact blockParity ▸ s.toNat_get_dmProtected_parity hk hj

end Sys2Proof.Machine
end

section
/-! The range of the PDF417 message codewords (45_pdf417_producer R421 to R426): every Text value is at most 29, every base-900 digit
below 900, and every other codeword a byte or a latch. -/

namespace Sys2Proof.Machine

/-! ### Text compaction -/

/-- The value of a byte is its place in the list of characters (45_pdf417_producer R421). -/
theorem lookup_lt_length {chars : List Nat} {b v : Nat}
    (h : (if chars.contains b then some (chars.idxOf b) else none) = some v) : v < chars.length := by
  obtain ⟨holds, ⟨⟩⟩ := Option.ite_none_right_eq_some.1 h
  exact List.idxOf_lt_length_of_mem (List.contains_iff_mem.1 holds)

theorem textTable_le {sub : TextSub} {b v : Nat} (h : textTable sub b = some v) : v ≤ 29 := by
  cases sub with
  | alpha =>
    simp only [textTable, valA, isUpper] at h
    grind
  | lower =>
    simp only [textTable, valL, isLower] at h
    grind
  | mixed =>
    simp only [textTable, valM] at h
    split at h
    · grind
    · exact (lookup_lt_length h).le.trans (by decide)
  | punct => exact (lookup_lt_length h).le.trans (by decide)

theorem shiftPunct_le (b : Nat) : ∀ v ∈ shiftPunct .given b, v ≤ 29 := by
  have punct : (textTable .punct b).getD 0 ≤ 29 := by
    cases h : textTable .punct b with
    | none => exact Nat.zero_le _
    | some v => exact textTable_le h
  simpa [shiftPunct] using punct

/-- A turn emits a table value, a latch or a shift (45_pdf417_producer R422). -/
theorem textTurn_le (sub : TextSub) (b : Nat) (next : Option Nat) : ∀ v ∈ (textTurn .given sub b next).1, v ≤ 29 := by
  have table : ∀ {sub v}, Tables.given.pdfTextTables sub b = some v → ∀ x ∈ [v], x ≤ 29 := fun h => by simpa using textTable_le h
  have shift := shiftPunct_le b
  cases sub <;> simp only [textTurn]
  case alpha =>
    split
    next h => exact table h
    split
    · decide
    split
    · decide
    · exact shift
  case lower =>
    split
    next h => exact table h
    split
    next h => exact List.forall_mem_cons.2 ⟨by decide, table h⟩
    split
    · decide
    · exact shift
  case mixed =>
    split
    next h => exact table h
    split
    · decide
    split
    · decide
    split
    · decide
    · exact shift
  case punct =>
    split
    next h => exact table h
    decide

theorem textByte_le (fuel : Nat) (sub : TextSub) (b : Nat) (next : Option Nat) :
    ∀ v ∈ (textByte .given fuel sub b next).1, v ≤ 29 := by
  induction fuel generalizing sub with
  | zero => exact List.forall_mem_nil _
  | succ fuel ih =>
    simp only [textByte]
    split
    · exact textTurn_le sub b next
    · exact List.forall_mem_append.2 ⟨textTurn_le sub b next, ih _⟩

theorem textValues_le (sub : TextSub) (seg : List Nat) : ∀ v ∈ textValues .given sub seg, v ≤ 29 := by
  induction seg generalizing sub with
  | nil => exact List.forall_mem_nil _
  | cons b rest ih => exact List.forall_mem_append.2 ⟨textByte_le 3 sub b _, ih _⟩

/-- Two values make one base-30 codeword (45_pdf417_producer R422). -/
theorem pairValues_lt {vs : List Nat} (h : ∀ v ∈ vs, v ≤ 29) : ∀ c ∈ pairValues vs, c < 900 := by
  induction vs using pairValues.induct with
  | case1 => exact List.forall_mem_nil _
  | case2 v =>
    have hv : v ≤ 29 := h v (by simp)
    simp only [pairValues, List.mem_singleton, forall_eq]
    omega
  | case3 v w rest ih =>
    simp only [List.forall_mem_cons] at h
    obtain ⟨hv, hw, hrest⟩ := h
    exact List.forall_mem_cons.2 ⟨by omega, ih hrest⟩

theorem textCodewords_lt (seg : List Nat) : ∀ c ∈ textCodewords .given seg, c < 900 := pairValues_lt (textValues_le .alpha seg)

/-! ### Numeric and Byte compaction -/

theorem base900_lt (k x : Nat) : ∀ c ∈ base900 k x, c < 900 := by
  induction k generalizing x with
  | zero => exact List.forall_mem_nil _
  | succ k ih => exact List.forall_mem_append.2 ⟨ih _, by simpa using Nat.mod_lt x (by decide)⟩

theorem base900Short_lt (x : Nat) : ∀ c ∈ base900Short x, c < 900 := by
  intro c hc
  unfold base900Short at hc
  exact base900_lt 16 x c ((List.dropWhile_suffix _).subset hc)

theorem numericCodewords_le (seg : List Nat) : ∀ c ∈ numericCodewords seg, c ≤ 928 := by
  refine List.forall_mem_cons.2 ⟨by decide, fun c hc => ?_⟩
  obtain ⟨g, -, hg⟩ := List.mem_flatMap.1 hc
  exact (base900Short_lt _ c hg).le.trans (by decide)

theorem mem_of_mem_chunksOf {α : Type} {k fuel : Nat} {xs g : List α} (hg : g ∈ chunksOf k fuel xs) {v : α} (hv : v ∈ g) :
    v ∈ xs := by
  induction fuel generalizing xs with
  | zero => exact absurd hg List.not_mem_nil
  | succ fuel ih =>
    cases xs with
    | nil => exact absurd hg List.not_mem_nil
    | cons x rest =>
      rcases List.mem_cons.1 hg with rfl | hg
      · exact List.mem_of_mem_take hv
      · exact List.mem_of_mem_drop (ih hg)

/-- A group of six bytes is written in base 900, a shorter one byte by byte (45_pdf417_producer R425). -/
theorem byteCodewords_le {seg : List Nat} (bytes : ∀ b ∈ seg, b < 256) : ∀ c ∈ byteCodewords seg, c ≤ 928 := by
  refine List.forall_mem_cons.2 ⟨by split <;> decide, fun c hc => ?_⟩
  obtain ⟨g, hg, hc⟩ := List.mem_flatMap.1 hc
  split at hc
  · exact (base900_lt _ _ c hc).le.trans (by decide)
  · exact (bytes c (mem_of_mem_chunksOf hg hc)).le.trans (by decide)

/-! ### The message -/

theorem mem_of_mem_runsByKey {α : Type} {l : List (Nat × α)} {seg : Nat × List α} (hseg : seg ∈ runsByKey l) {v : α}
    (hv : v ∈ seg.2) : (seg.1, v) ∈ l := by
  induction l generalizing seg with
  | nil => exact absurd hseg List.not_mem_nil
  | cons first rest ih =>
    obtain ⟨k, x⟩ := first
    unfold runsByKey at hseg
    split at hseg
    next =>
      obtain rfl := List.mem_singleton.1 hseg
      simp [List.mem_singleton.1 hv]
    next k' vs more runs =>
      simp only [runs, List.forall_mem_cons] at ih
      split at hseg <;> grind

theorem pdfSegment_le (first : Bool) {seg : Nat × List Nat} (bytes : ∀ b ∈ seg.2, b < 256) :
    ∀ c ∈ pdfSegment .given first seg, c ≤ 928 := by
  unfold pdfSegment
  split
  · have latch : ∀ c ∈ (if first then [] else [900]), c ≤ 928 := by cases first <;> decide
    exact List.forall_mem_append.2 ⟨latch, fun c hc => (textCodewords_lt _ c hc).le.trans (by decide)⟩
  · exact numericCodewords_le _
  · exact byteCodewords_le bytes

theorem pdfSegments_le (first : Bool) {segs : List (Nat × List Nat)} (bytes : ∀ seg ∈ segs, ∀ b ∈ seg.2, b < 256) :
    ∀ c ∈ pdfSegments .given first segs, c ≤ 928 := by
  induction segs generalizing first with
  | nil => exact List.forall_mem_nil _
  | cons seg rest ih =>
    obtain ⟨here, later⟩ := List.forall_mem_cons.1 bytes
    exact List.forall_mem_append.2 ⟨pdfSegment_le first here, ih false later⟩

/-- Settles O45: the segments hold bytes of the message only, and each kind of segment keeps to the range. -/
theorem pdfCodewordRange : Obligations.PdfCodewordRange := by
  intro plan bytes small
  exact pdfSegments_le true fun seg hseg b hb => small b (List.of_mem_zip (mem_of_mem_runsByKey hseg hb)).2

end Sys2Proof.Machine
end

section
/-! `PDF_PRODUCE` and `PDF_ECC` (45_pdf417_producer R427 to R436, R445): what the configuration check allows, the geometries and
variants that hold a message, the padded data codewords in `CW`, and the commands themselves. -/

namespace Sys2Proof.Machine

/-! ### What the configuration check allows -/

theorem configFail_eq_none_iff {cond : Bool} {detail : Nat} {next : Option CmdError} :
    configFail cond detail next = none ↔ cond = false ∧ next = none := by
  cases cond <;> simp [configFail]

/-- The requested rows and columns of a legal PDF417 configuration (60_exceptions R722). -/
theorem geometry_le_of_checkConfig {s : State} (config : checkConfig .pdf s = none) (full : s.micro = false) :
    s.geomRows ≤ 90 ∧ s.geomCols ≤ 30 ∧ (s.geomRows ≠ 0 → s.geomCols ≠ 0 → s.geomRows * s.geomCols ≤ 928) := by
  simp only [checkConfig, checkSym, checkPdf, configFail_eq_none_iff] at config
  obtain ⟨-, -, -, -, -, -, -, geometry, -⟩ := config
  simp only [full, Bool.not_false, Bool.true_and, Bool.or_eq_false_iff, Bool.and_eq_false_iff, decide_eq_false_iff_not,
    bne_eq_false_iff_eq, Nat.not_lt] at geometry
  omega

/-- The level fits its register (45_pdf417_producer R428). -/
theorem pdfLevel_le (ecl d : Nat) : pdfLevel .given ecl d ≤ 8 := by
  simp only [pdfLevel, Tables.given_pdfAutoEc, pdfAutoLevel]
  split_ifs <;> omega

/-! ### PDF417 geometry -/

section
variable {rows cols total r c : Nat}

theorem le_mul_ceilDiv (total : Nat) (hc : 0 < c) : total ≤ c * ceilDiv total c := by
  have := Nat.lt_mul_div_succ (total + c - 1) hc
  rw [Nat.mul_succ] at this
  unfold ceilDiv
  omega

theorem le_pdfRowsFor_mul (total : Nat) (hc : 0 < c) : total ≤ pdfRowsFor total c * c :=
  calc total ≤ c * ceilDiv total c := le_mul_ceilDiv total hc
    _ = ceilDiv total c * c := Nat.mul_comm _ _
    _ ≤ pdfRowsFor total c * c := Nat.mul_le_mul_right c (le_max_right 3 _)

/-- What R429 asks of the columns it takes. -/
theorem pdfAutoCols_fits (found : pdfAutoCols total = some c) :
    1 ≤ c ∧ c ≤ 30 ∧ pdfRowsFor total c ≤ 90 ∧ pdfRowsFor total c * c ≤ 928 := by
  have inRange : ∀ {p : Nat → Bool}, ((List.range 30).map (· + 1)).find? p = some c → 1 ≤ c ∧ c ≤ 30 := fun h => by
    have := List.mem_of_find?_eq_some h
    simp only [List.mem_map, List.mem_range] at this
    omega
  unfold pdfAutoCols at found
  simp only at found
  split at found
  next h =>
    obtain rfl := Option.some.inj found
    have test := List.find?_some h
    simp only [Bool.and_eq_true, decide_eq_true_eq] at test
    exact ⟨(inRange h).1, (inRange h).2, test.1⟩
  next =>
    have test := List.find?_some found
    simp only [Bool.and_eq_true, decide_eq_true_eq] at test
    exact ⟨(inRange found).1, (inRange found).2, test⟩

theorem pdfAutoCols_eq_none (large : ∀ c, 1 ≤ c → c ≤ 30 → 90 < pdfRowsFor total c ∨ 928 < pdfRowsFor total c * c) :
    pdfAutoCols total = none := by
  cases found : pdfAutoCols total with
  | none => rfl
  | some c =>
    obtain ⟨h1, h30, fewRows, fits⟩ := pdfAutoCols_fits found
    have := large c h1 h30
    omega

theorem pdfGeometry_both_error (hrows : rows ≠ 0) (hcols : cols ≠ 0) (large : rows * cols < total) :
    pdfGeometry rows cols total = .error (errorAt .capacity 3) := by
  unfold pdfGeometry
  rw [if_pos ⟨hrows, hcols⟩, if_pos large]

theorem pdfGeometry_cols_error (hrows : rows = 0) (hcols : cols ≠ 0)
    (large : 90 < pdfRowsFor total cols ∨ 928 < pdfRowsFor total cols * cols) :
    pdfGeometry rows cols total = .error (errorAt .capacity 3) := by
  unfold pdfGeometry
  rw [if_neg (fun h => h.1 hrows), if_pos hcols]
  exact if_pos large

theorem pdfGeometry_rows_error (hrows : rows ≠ 0) (hcols : cols = 0)
    (large : 30 < ceilDiv total rows ∨ 928 < rows * ceilDiv total rows) :
    pdfGeometry rows cols total = .error (errorAt .capacity 3) := by
  unfold pdfGeometry
  rw [if_neg (fun h => h.2 hcols), if_neg (not_not.2 hcols), if_pos hrows]
  exact if_pos large

theorem pdfGeometry_auto_error (hrows : rows = 0) (hcols : cols = 0)
    (large : ∀ c, 1 ≤ c → c ≤ 30 → 90 < pdfRowsFor total c ∨ 928 < pdfRowsFor total c * c) :
    pdfGeometry rows cols total = .error (errorAt .capacity 2) := by
  unfold pdfGeometry
  rw [if_neg (fun h => h.1 hrows), if_neg (not_not.2 hcols), if_neg (not_not.2 hrows), pdfAutoCols_eq_none large]

/-- A geometry that R429 gives holds the codewords, within the limits of PDF417. -/
theorem pdfGeometry_fits (selected : pdfGeometry rows cols total = .ok (r, c)) (hrows : rows ≤ 90) (hcols : cols ≤ 30)
    (hboth : rows ≠ 0 → cols ≠ 0 → rows * cols ≤ 928) : total ≤ r * c ∧ r * c ≤ 928 ∧ r ≤ 90 ∧ c ≤ 30 := by
  unfold pdfGeometry at selected
  split at selected
  next both =>
    split at selected <;> cases selected
    next large => exact ⟨Nat.le_of_not_lt large, hboth both.1 both.2, hrows, hcols⟩
  split at selected
  next given =>
    simp only at selected
    split at selected <;> cases selected
    next small =>
      rw [not_or, Nat.not_lt, Nat.not_lt] at small
      exact ⟨le_pdfRowsFor_mul total (Nat.pos_of_ne_zero given), small.2, small.1, hcols⟩
  split at selected
  next given =>
    simp only at selected
    split at selected <;> cases selected
    next small =>
      rw [not_or, Nat.not_lt, Nat.not_lt] at small
      exact ⟨le_mul_ceilDiv total (Nat.pos_of_ne_zero given), small.2, hrows, small.1⟩
  split at selected <;> cases selected
  next found =>
    obtain ⟨h1, h30, fewRows, fits⟩ := pdfAutoCols_fits found
    exact ⟨le_pdfRowsFor_mul total h1, fits, fewRows, h30⟩

end

/-! ### MicroPDF417 variants -/

section
variable {rows cols len : Nat} {v : MicroVariant}

theorem microVariant_fits (selected : microVariant rows cols len = .ok v) : v ∈ mpdfVariants ∧ len ≤ 126 ∧ len ≤ v.cap := by
  unfold microVariant at selected
  split at selected
  next => cases selected
  next short =>
    split at selected <;> cases selected
    next found =>
      have test := List.find?_some found
      simp only [Bool.and_eq_true, decide_eq_true_eq] at test
      exact ⟨List.mem_of_find?_eq_some found, Nat.le_of_not_lt short, test.2⟩

theorem microVariant_too_long (rows cols : Nat) (long : 126 < len) : microVariant rows cols len = .error (errorAt .capacity 4) :=
  if_pos long

theorem microVariant_none_fits (short : len ≤ 126)
    (small : ∀ v ∈ mpdfVariants, (cols = 0 ∨ v.cols = cols) → (rows = 0 ∨ v.rows = rows) → v.cap < len) :
    microVariant rows cols len = .error (errorAt .capacity (if rows ≠ 0 ∨ cols ≠ 0 then 3 else 2)) := by
  have none_fits : (mpdfVariants.find? fun v =>
      (cols == 0 || v.cols == cols) && (rows == 0 || v.rows == rows) && decide (len ≤ v.cap)) = none := by
    refine List.find?_eq_none.2 fun v hv => ?_
    simpa [and_assoc, Nat.not_le] using small v hv
  unfold microVariant
  have notLong : ¬ Config.microMaxCw < len := Nat.not_lt.2 short
  rw [if_neg notLong, none_fits]

end

/-! ### Padded codewords in a buffer -/

section
variable {cws : List Nat} {n k : Nat}

theorem length_padTo (fits : cws.length ≤ n) : (padTo n cws).length = n := by
  rw [padTo, List.length_append, List.length_replicate]
  omega

variable {base size width : Nat} (b : Buffer base size width)

theorem get_writeNats_padTo_codeword (fits : cws.length ≤ n) (inside : n ≤ size) (hk : k < cws.length) :
    (b.writeNats 0 (padTo n cws)).get k = BitVec.ofNat width (cws.getD k 0) := by
  rw [Buffer.get_writeNats, length_padTo fits, if_pos (by omega), Nat.sub_zero, padTo, List.getD_append _ _ _ _ hk]

theorem get_writeNats_padTo_pad (inside : n ≤ size) (hk : cws.length ≤ k) (hn : k < n) :
    (b.writeNats 0 (padTo n cws)).get k = BitVec.ofNat width 900 := by
  rw [Buffer.get_writeNats, length_padTo (by omega), if_pos (by omega), Nat.sub_zero, padTo, List.getD_append_right _ _ _ _ hk,
    List.getD_replicate _ (by omega)]

theorem get_writeNats_padTo_above (fits : cws.length ≤ n) (hk : n ≤ k) : (b.writeNats 0 (padTo n cws)).get k = b.get k :=
  Buffer.get_writeNats_of_not_mem b 0 k _ (.inr (by rw [length_padTo fits]; omega))

end

/-! ### The commands -/

section
variable {s : State}

/-- All that `PDF_PRODUCE` leaves unchanged (10_state R66 to R68, R72). -/
def State.PdfProducedFrame (s t : State) : Prop :=
  t = { s with
    cw := t.cw, pipeStage := .produced, done := true, latch := none
    res := { s.res with
      cwMsg := t.res.cwMsg, cwData := t.res.cwData, cwTotal := t.res.cwTotal, selSize := t.res.selSize, selEcl := t.res.selEcl
      selMode := 0 } }

/-- A produce stage that pads: the codewords, the pads behind them, the results and the frame (45_pdf417_producer R430, R432). -/
theorem exec_pdfProduce_padded (hsym : s.pipeSym = .pdf) (hstage : s.pipeStage = .planned) (config : checkConfig .pdf s = none)
    {cws : List Nat} {n msg total size ecl : Nat}
    (produced : pdfProduce .given s = .ok (s.produced (padTo n cws) msg total size ecl 0)) (fits : cws.length ≤ n)
    (hn : n ≤ 928) (hmsg : msg ≤ 928) (htotal : total ≤ 928) (hsize : size < 2 ^ 16) (hecl : ecl < 2 ^ 4) :
    ∃ t, exec .pdfProduce s = .next t ∧ (∀ k, k < cws.length → t.cw.get k = BitVec.ofNat 10 (cws.getD k 0)) ∧
      (∀ k, cws.length ≤ k → k < n → t.cw.get k = 900) ∧ (∀ k, n ≤ k → t.cw.get k = s.cw.get k) ∧
      t.res.cwMsg.toNat = msg ∧ t.res.cwData.toNat = n ∧ t.res.cwTotal.toNat = total ∧ t.res.selSize.toNat = size ∧
      t.res.selEcl.toNat = ecl ∧ s.PdfProducedFrame t := by
  have inside : n ≤ 4096 := hn.trans (by decide)
  refine ⟨_, congrArg Host.Outcome.next (laterStage_ok_of_same_sym hsym hstage config produced rfl),
    fun k hk => get_writeNats_padTo_codeword s.cw fits inside hk, fun k hk hpad => get_writeNats_padTo_pad s.cw inside hk hpad,
    fun k hk => get_writeNats_padTo_above s.cw fits hk, toNat_of_eq_ofNat rfl (by omega), ?_, toNat_of_eq_ofNat rfl (by omega),
    toNat_of_eq_ofNat rfl hsize, toNat_of_eq_ofNat rfl hecl, rfl⟩
  exact toNat_of_eq_ofNat (congrArg (BitVec.ofNat 13) (length_padTo fits)) (by omega)

theorem raisesError_of_pdfProduce_raised (hsym : s.pipeSym = .pdf) (hstage : s.pipeStage = .planned)
    (config : checkConfig .pdf s = none) {e : CmdError} (raised : pdfProduce .given s = .raised e s) :
    RaisesError .pdfProduce s e.code.number e.detail e.index :=
  raisesError_of_exec (congrArg Host.Outcome.next (laterStage_raised hsym hstage config raised))

/-- `D + E`, the codewords that a PDF417 symbol has to hold (45_pdf417_producer R427, R428). -/
def State.pdfNeed (s : State) : Nat :=
  (s.pdfMsg .given).length + 1 + 2 ^ (pdfLevel .given s.ecl ((s.pdfMsg .given).length + 1) + 1)

theorem pdfProduce_of_no_geometry (full : s.micro = false) {e : CmdError}
    (failed : pdfGeometry s.geomRows s.geomCols s.pdfNeed = .error e) : pdfProduce .given s = .raised e s := by
  unfold State.pdfNeed at failed
  simp only [pdfProduce, full, Bool.false_eq_true, if_false, pdfProduceFull, failed]

theorem pdfProduce_of_no_variant (micro : s.micro = true) {e : CmdError}
    (failed : microVariant s.geomRows s.geomCols (s.pdfMsg .given).length = .error e) : pdfProduce .given s = .raised e s := by
  simp only [pdfProduce, micro, if_true, pdfProduceMicro, failed]

end

/-- Settles O46: a geometry or a variant that is selected holds the codewords within the limits of its kind, so the padded list and every
result fit; where none is selected the rule raises what the selection names. -/
theorem pdfProduceResult : Obligations.PdfProduceResult := by
  intro s hsym hstage config msg d level e frame
  have raises := fun {err} => raisesError_of_pdfProduce_raised (e := err) hsym hstage config
  refine ⟨fun full r c selected => ?full, fun full => ?noGeometry, fun micro v selected => ?micro,
    fun micro long => raises (pdfProduce_of_no_variant micro (microVariant_too_long _ _ long)),
    fun micro short small => raises (pdfProduce_of_no_variant micro (microVariant_none_fits short small))⟩
  case noGeometry =>
    have noGeometry := fun {err} => pdfProduce_of_no_geometry (e := err) full
    exact ⟨fun hr hc large => raises (noGeometry (pdfGeometry_both_error hr hc large)),
      fun hr hc large => raises (noGeometry (pdfGeometry_cols_error hr hc large)),
      fun hr hc large => raises (noGeometry (pdfGeometry_rows_error hr hc large)),
      fun hr hc large => raises (noGeometry (pdfGeometry_auto_error hr hc large))⟩
  case full =>
    obtain ⟨hrows, hcols, hboth⟩ := geometry_le_of_checkConfig config full
    obtain ⟨holds, limit, fewRows, fewCols⟩ := pdfGeometry_fits selected hrows hcols hboth
    have hlevel : level ≤ 8 := pdfLevel_le s.ecl d
    have fits : d ≤ r * c - e := by omega
    have produced : pdfProduce .given s =
        .ok (s.produced (padTo (r * c - e) ((r * c - e) :: msg)) d (r * c) (r + 256 * c) level 0) :=
      (if_neg (Bool.eq_false_iff.1 full)).trans ((pdfProduceFull_ok_iff .given s _).2 ⟨(r, c), selected, rfl⟩)
    have data : r * c - e ≤ 928 := (Nat.sub_le _ _).trans limit
    obtain ⟨t, hexec, codeword, pad, above, hmsg, hdata, htotal, hsize, hecl, hframe⟩ :=
      exec_pdfProduce_padded hsym hstage config produced fits data (fits.trans data) limit (by omega) (by omega)
    exact ⟨t, hexec, holds, limit, codeword 0 (Nat.succ_pos _), fun k hk => codeword (k + 1) (Nat.succ_lt_succ hk), pad, above,
      hmsg, hdata, htotal, hsize, hecl, hframe⟩
  case micro =>
    obtain ⟨member, short, fits⟩ := microVariant_fits selected
    obtain ⟨-, fewCols, -, limit⟩ := mpdfVariants_legal member
    have fewRows := mpdfVariants_rows member
    have cap : v.cap ≤ v.cols * v.rows := Nat.sub_le _ _
    have produced : pdfProduce .given s =
        .ok (s.produced (padTo v.cap msg) msg.length (v.cols * v.rows) (v.rows + 256 * v.cols) 0 0) :=
      (if_pos micro).trans ((pdfProduceMicro_ok_iff .given s _).2 ⟨v, selected, rfl⟩)
    obtain ⟨t, hexec, codeword, pad, above, hmsg, hdata, htotal, hsize, hecl, hframe⟩ :=
      exec_pdfProduce_padded hsym hstage config produced fits (by omega) (by omega) (by omega) (by omega) (by decide)
    exact ⟨t, hexec, short, fits, codeword, pad, above, hmsg, hdata, htotal, hsize, BitVec.eq_of_toNat_eq hecl, hframe⟩

/-- Settles O47: the parity has the length asked for and its codewords fit the entries of `CW`. -/
theorem pdfEccResult : Obligations.PdfEccResult := by
  intro s hsym hstage config n k par
  have length : par.length = k := length_ecc929 _ _
  refine ⟨_, congrArg Host.Outcome.next (laterStage_ok_of_same_sym hsym hstage config rfl rfl), length, fun j hn hk hj => ?_,
    fun j hj => Buffer.get_writeNats_of_not_mem s.cw n j par (by omega), rfl⟩
  have small : par.getD (j - n) 0 < 929 := by
    rw [List.getD_eq_getElem _ _ (by omega)]
    exact mem_ecc929 _ _ _ (List.getElem_mem _)
  have written : (s.cw.writeNats n par).get j = BitVec.ofNat 10 (par.getD (j - n) 0) :=
    (Buffer.get_writeNats s.cw n j par).trans (if_pos ⟨hn, by omega, hj⟩)
  exact ⟨toNat_of_eq_ofNat written (by omega), small⟩

end Sys2Proof.Machine
end

section
/-! `MAXI_PRODUCE` (46_maxicode_qr_producer R460 to R468): where the code-set scan stops, the primary and the secondary message with their
pads in `CW`, and the errors that `MAXI_PRODUCE` and `MAXI_ENCODE` share. -/

namespace Sys2Proof.Machine

open Sys2Proof.Config (MaxiSet)

/-! ### One byte of the scan -/

section
variable {reject : Bool} {b i : Nat} {rest : List Nat}

/-- The byte cannot be encoded by itself: `MAXI_LC_REJECT` refuses it, or no code set holds it (46_maxicode_qr_producer R463, R468). -/
def MaxiFails (reject : Bool) (b : Nat) : Prop :=
  (reject = true ∧ 97 ≤ b ∧ b ≤ 122) ∨ ∀ set : MaxiSet, maxiVal set b = none

theorem maxiFirstSet_eq_none_iff (b : Nat) : maxiFirstSet b = none ↔ ∀ set : MaxiSet, maxiVal set b = none := by
  have every : ∀ set : MaxiSet, set ∈ [MaxiSet.a, .b, .c, .d, .e] := fun set => by cases set <;> decide
  unfold maxiFirstSet
  simp only [List.findSome?_eq_none_iff, Option.map_eq_none_iff]
  exact ⟨fun h set => h set (every set), fun h set _ => h set⟩

/-- Which set is current does not matter for whether a byte can be encoded (46_maxicode_qr_producer R463). -/
theorem maxiByte_eq_none_iff (cur : MaxiSet) (b : Nat) : maxiByte cur b = none ↔ ∀ set : MaxiSet, maxiVal set b = none := by
  unfold maxiByte
  cases hcur : maxiVal cur b with
  | some v => exact ⟨(nomatch ·), fun h => nomatch hcur.symm.trans (h cur)⟩
  | none =>
    rw [← maxiFirstSet_eq_none_iff]
    cases maxiFirstSet b with
    | none => simp
    | some found =>
      obtain ⟨t, v⟩ := found
      cases t <;> simp

theorem nineDigits_iff (bytes : List Nat) : nineDigits bytes = true ↔ 9 ≤ bytes.length ∧ (bytes.take 9).all isDigit = true := by
  simp [nineDigits]

theorem maxiRejects_iff (reject : Bool) (b : Nat) : (reject && isLower b) = true ↔ reject = true ∧ 97 ≤ b ∧ b ≤ 122 := by
  simp [isLower]

/-- Nine digits go into one Numeric Shift, which keeps the set (46_maxicode_qr_producer R463). -/
theorem maxiScan_of_nineDigits (reject : Bool) (cur : MaxiSet) (i : Nat) (nine : nineDigits (b :: rest) = true) :
    ∃ cws, maxiScan reject cur 0 i (b :: rest) = (maxiScan reject cur 8 (i + 1) rest).map (cws ++ ·) := by
  refine ⟨maxiNumericShift :: numericShift ((b :: rest).take 9), ?_⟩
  rw [maxiScan, if_pos nine]
  cases maxiScan reject cur 8 (i + 1) rest <;> rfl

theorem maxiScan_of_fails (cur : MaxiSet) (i : Nat) (single : ¬ nineDigits (b :: rest) = true) (bad : MaxiFails reject b) :
    maxiScan reject cur 0 i (b :: rest) = .error ⟨.charset, 0, BitVec.ofNat 32 i⟩ := by
  rw [maxiScan, if_neg single]
  rcases bad with lower | noSet
  · exact if_pos ((maxiRejects_iff reject b).2 lower)
  · rw [(maxiByte_eq_none_iff cur b).2 noSet, ite_self]

theorem maxiScan_of_encodable (cur : MaxiSet) (i : Nat) (single : ¬ nineDigits (b :: rest) = true) (good : ¬ MaxiFails reject b) :
    ∃ cws next, maxiScan reject cur 0 i (b :: rest) = (maxiScan reject next 0 (i + 1) rest).map (cws ++ ·) := by
  obtain ⟨notRefused, someSet⟩ := not_or.1 good
  rw [maxiScan, if_neg single, if_neg fun h => notRefused ((maxiRejects_iff reject b).1 h)]
  cases encoded : maxiByte cur b with
  | none => exact absurd ((maxiByte_eq_none_iff cur b).1 encoded) someSet
  | some found =>
    obtain ⟨cws, next⟩ := found
    refine ⟨cws, next, ?_⟩
    dsimp only
    cases maxiScan reject next 0 (i + 1) rest <;> rfl

end

/-! ### The whole scan -/

section
variable {reject : Bool} {byte : Nat → Nat} {bytes : List Nat} {skip i : Nat}

/-- The bytes are those that `byte` gives for the positions from `i` on. -/
def ReadsFrom (byte : Nat → Nat) (i : Nat) (bytes : List Nat) : Prop := ∀ k, k < bytes.length → bytes.getD k 0 = byte (i + k)

theorem ReadsFrom.head {b : Nat} (h : ReadsFrom byte i (b :: bytes)) : b = byte i := h 0 (Nat.succ_pos _)

theorem ReadsFrom.tail {b : Nat} (h : ReadsFrom byte i (b :: bytes)) : ReadsFrom byte (i + 1) bytes := fun k hk => by
  simpa [Nat.add_assoc, Nat.add_comm 1 k] using h (k + 1) (Nat.succ_lt_succ hk)

theorem le_of_mem_maxiSingles {k : Nat} (hk : k ∈ maxiSingles skip i bytes) : i ≤ k := by
  induction bytes generalizing skip i with
  | nil => cases skip <;> cases hk
  | cons b rest ih =>
    cases skip with
    | succ skip => exact (Nat.le_succ i).trans (ih hk)
    | zero =>
      rw [maxiSingles] at hk
      split at hk
      · exact (Nat.le_succ i).trans (ih hk)
      · rcases List.mem_cons.1 hk with rfl | hk
        · exact le_rfl
        · exact (Nat.le_succ i).trans (ih hk)

/-- How the scan ends: every byte outside a Numeric Shift can be encoded, or it stops at the first that cannot. -/
def MaxiScanEnds (reject : Bool) (byte : Nat → Nat) (singles : List Nat) (result : Except CmdError (List Nat)) : Prop :=
  ((∀ k ∈ singles, ¬ MaxiFails reject (byte k)) ∧ ∃ msg, result = .ok msg) ∨
    ∃ k ∈ singles, MaxiFails reject (byte k) ∧ (∀ j ∈ singles, j < k → ¬ MaxiFails reject (byte j)) ∧
      result = .error ⟨.charset, 0, BitVec.ofNat 32 k⟩

theorem MaxiScanEnds.map {singles : List Nat} {result : Except CmdError (List Nat)} (h : MaxiScanEnds reject byte singles result)
    (f : List Nat → List Nat) : MaxiScanEnds reject byte singles (result.map f) := by
  rcases h with ⟨good, msg, rfl⟩ | ⟨k, hk, bad, first, rfl⟩
  · exact .inl ⟨good, _, rfl⟩
  · exact .inr ⟨k, hk, bad, first, rfl⟩

/-- One more byte in front that can be encoded. -/
theorem MaxiScanEnds.cons {singles : List Nat} {result : Except CmdError (List Nat)} (h : MaxiScanEnds reject byte singles result)
    (good : ¬ MaxiFails reject (byte i)) : MaxiScanEnds reject byte (i :: singles) result := by
  rcases h with ⟨rest, ok⟩ | ⟨k, hk, bad, first, error⟩
  · exact .inl ⟨List.forall_mem_cons.2 ⟨good, rest⟩, ok⟩
  · exact .inr ⟨k, List.mem_cons_of_mem _ hk, bad, List.forall_mem_cons.2 ⟨fun _ => good, first⟩, error⟩

theorem maxiScan_ends (reject : Bool) (cur : MaxiSet) (skip : Nat) (reads : ReadsFrom byte i bytes) :
    MaxiScanEnds reject byte (maxiSingles skip i bytes) (maxiScan reject cur skip i bytes) := by
  induction bytes generalizing cur skip i with
  | nil => cases skip <;> exact .inl ⟨fun _ hk => (nomatch hk), _, rfl⟩
  | cons b rest ih =>
    cases skip with
    | succ skip => exact ih cur skip reads.tail
    | zero =>
      by_cases nine : nineDigits (b :: rest) = true
      · obtain ⟨cws, scan⟩ := maxiScan_of_nineDigits reject cur i nine
        rw [maxiSingles, if_pos ((nineDigits_iff _).1 nine), scan]
        exact (ih cur 8 reads.tail).map _
      · rw [maxiSingles, if_neg fun h => nine ((nineDigits_iff _).2 h)]
        by_cases bad : MaxiFails reject b
        · have first : ∀ j ∈ i :: maxiSingles 0 (i + 1) rest, j < i → ¬ MaxiFails reject (byte j) := fun j hj hji => by
            rcases List.mem_cons.1 hj with rfl | hj
            · exact absurd hji (Nat.lt_irrefl _)
            · exact absurd (le_of_mem_maxiSingles hj) (by omega)
          exact .inr ⟨i, List.mem_cons_self, reads.head ▸ bad, first, maxiScan_of_fails cur i nine bad⟩
        · obtain ⟨cws, next, scan⟩ := maxiScan_of_encodable cur i nine bad
          rw [scan]
          exact ((ih next 0 reads.tail).map _).cons (reads.head ▸ bad)

end

/-! ### The primary and the secondary message -/

section
variable {mode k : Nat} {msg primary : List Nat}

theorem maxiIsStructured_iff (mode : Nat) : maxiIsStructured mode = true ↔ mode = 2 ∨ mode = 3 := by simp [maxiIsStructured]

theorem maxiSecondary_le (mode : Nat) : maxiSecondary mode ≤ 84 := by
  unfold maxiSecondary
  split <;> decide

theorem length_maxiPadTo {n : Nat} (fits : msg.length ≤ n) : (maxiPadTo n msg).length = n := by
  rw [maxiPadTo, List.length_append, List.length_replicate]
  omega

theorem getD_maxiPadTo {n : Nat} (cws : List Nat) (hk : k < n) : (maxiPadTo n cws).getD k 0 = cws.getD k maxiPad := by
  unfold maxiPadTo
  by_cases codeword : k < cws.length
  · rw [List.getD_append _ _ _ _ codeword, List.getD_eq_getElem _ _ codeword, List.getD_eq_getElem _ _ codeword]
  · have pad : cws.length ≤ k := Nat.le_of_not_lt codeword
    rw [List.getD_append_right _ _ _ _ pad, List.getD_replicate _ (by omega), List.getD_eq_default _ _ pad]

theorem maxiPlacement_of_structured (structured : maxiIsStructured mode = true) (primary msg : List Nat) :
    maxiPlacement mode primary msg = primary ++ maxiPadTo (maxiSecondary mode) msg := if_pos structured

theorem maxiPlacement_of_not_structured (plain : ¬ maxiIsStructured mode = true) (primary msg : List Nat) :
    maxiPlacement mode primary msg = maxiPadTo (10 + maxiSecondary mode) (mode :: msg) := if_neg plain

theorem length_maxiPlacement (length : primary.length = 10) (fits : msg.length ≤ maxiCapacity mode) :
    (maxiPlacement mode primary msg).length = 10 + maxiSecondary mode := by
  unfold maxiCapacity at fits
  by_cases structured : maxiIsStructured mode = true
  · rw [if_pos structured] at fits
    rw [maxiPlacement_of_structured structured, List.length_append, length, length_maxiPadTo fits]
  · rw [if_neg structured] at fits
    rw [maxiPlacement_of_not_structured structured, length_maxiPadTo (by rw [List.length_cons]; omega)]

end

/-! ### The command -/

section
variable {s : State} {e : CmdError} {msg : List Nat}

/-- The primary message of modes 2 and 3 for the configuration (46_maxicode_qr_producer R465). -/
def State.maxiPrimary (s : State) : List Nat :=
  maxiStructured s.size s.cfg.maxiPostal.toNat s.cfg.xHi.toNat s.cfg.country.toNat s.cfg.service.toNat

theorem State.length_maxiPrimary (s : State) : s.maxiPrimary.length = 10 := by
  simp [State.maxiPrimary, maxiStructured]

/-- The 6-bit groups of `V`, the lowest first (46_maxicode_qr_producer R465). -/
theorem State.getD_maxiPrimary (s : State) {i : Nat} (hi : i < 10) :
    s.maxiPrimary.getD i 0 =
      (s.size + (s.cfg.xHi.toNat * 2 ^ 32 + s.cfg.maxiPostal.toNat) * 2 ^ 4 + s.cfg.country.toNat * 2 ^ 40 +
        s.cfg.service.toNat * 2 ^ 50) / 2 ^ (6 * i) % 64 := by
  rw [List.getD_eq_getElem _ _ (s.length_maxiPrimary.symm ▸ hi)]
  simp only [State.maxiPrimary, maxiStructured, List.getElem_map, List.getElem_range]

/-- The codewords of the message in their places, with the pads (46_maxicode_qr_producer R466). -/
def State.maxiPlaced (s : State) (msg : List Nat) : List Nat := maxiPlacement s.size s.maxiPrimary msg

/-- Both parts of the symbol hold the message, so the codewords fill the data positions (46_maxicode_qr_producer R466). -/
theorem State.length_maxiPlaced (fits : msg.length ≤ maxiCapacity s.size) :
    (s.maxiPlaced msg).length = 10 + maxiSecondary s.size := length_maxiPlacement s.length_maxiPrimary fits

theorem maxiProduce_of_no_codewords (failed : maxiCodewords s.cfg.symCfg.maxiLcReject s.message = .error e) :
    maxiProduce s = .raised e s := by
  simp only [maxiProduce, failed]

theorem maxiProduce_of_too_long (encoded : maxiCodewords s.cfg.symCfg.maxiLcReject s.message = .ok msg)
    (long : maxiCapacity s.size < msg.length) : maxiProduce s = .raised (errorAt .capacity 3) s := by
  simp only [maxiProduce, encoded, if_pos long]

theorem maxiProduce_of_fits (encoded : maxiCodewords s.cfg.symCfg.maxiLcReject s.message = .ok msg)
    (fits : msg.length ≤ maxiCapacity s.size) :
    maxiProduce s = .ok { s with
      cw := s.cw.writeNats 0 (s.maxiPlaced msg)
      res := s.res.produced msg.length (10 + maxiSecondary s.size) 144 s.size (if s.size = 5 then 1 else 0) 0 } := by
  simp only [maxiProduce, encoded, if_neg (Nat.not_lt.2 fits)]
  rfl

/-- What the produce stage raises, `MAXI_ENCODE` raises too: no later stage of it runs (40_control_pipeline R234). -/
theorem raisesError_of_maxiProduce_raised (config : checkConfig .maxi s = none) (raised : maxiProduce s = .raised e s)
    {i : Instr} (hi : i ∈ [Instr.maxiProduce, .maxiEncode]) : RaisesError i s e.code.number e.detail e.index := by
  have pipeline : maxiPipeline s = .raised e s := by simp [maxiPipeline, raised]
  obtain rfl | rfl : i = .maxiProduce ∨ i = .maxiEncode := by simpa using hi
  · exact raisesError_of_exec (congrArg Host.Outcome.next (firstStage_raised config raised))
  · exact raisesError_of_exec (congrArg Host.Outcome.next (firstStage_raised config pipeline))

/-- An entry of `CW` that the message, its primary part or its pads fill. -/
theorem State.get_maxiPlaced (fits : msg.length ≤ maxiCapacity s.size) {k : Nat} (hk : k < 10 + maxiSecondary s.size) :
    (s.cw.writeNats 0 (s.maxiPlaced msg)).get k = BitVec.ofNat 10 ((s.maxiPlaced msg).getD k 0) := by
  have secondary := maxiSecondary_le s.size
  rw [Buffer.get_writeNats, s.length_maxiPlaced fits, if_pos (by omega), Nat.sub_zero]

theorem State.get_maxiPlaced_above (fits : msg.length ≤ maxiCapacity s.size) {k : Nat} (hk : 10 + maxiSecondary s.size ≤ k) :
    (s.cw.writeNats 0 (s.maxiPlaced msg)).get k = s.cw.get k :=
  Buffer.get_writeNats_of_not_mem _ _ _ _ (.inr (by rw [s.length_maxiPlaced fits]; omega))

/-- `CW` in modes 2 and 3: the primary message, then the message and its pads (46_maxicode_qr_producer R465, R466). -/
theorem State.getD_maxiPlaced_structured (structured : maxiIsStructured s.size = true) (msg : List Nat) :
    (∀ i, i < 10 → (s.maxiPlaced msg).getD i 0 = s.maxiPrimary.getD i 0) ∧
      ∀ k, k < maxiSecondary s.size → (s.maxiPlaced msg).getD (10 + k) 0 = msg.getD k maxiPad := by
  rw [State.maxiPlaced, maxiPlacement_of_structured structured]
  refine ⟨fun i hi => List.getD_append _ _ _ _ (s.length_maxiPrimary.symm ▸ hi), fun k hk => ?_⟩
  rw [List.getD_append_right _ _ _ _ (by rw [s.length_maxiPrimary]; omega), s.length_maxiPrimary, Nat.add_sub_cancel_left,
    getD_maxiPadTo msg hk]

/-- `CW` in modes 4 to 6: the mode, then the message and its pads (46_maxicode_qr_producer R466). -/
theorem State.getD_maxiPlaced_plain (plain : ¬ maxiIsStructured s.size = true) (msg : List Nat) :
    (s.maxiPlaced msg).getD 0 0 = s.size ∧
      ∀ k, k < 9 + maxiSecondary s.size → (s.maxiPlaced msg).getD (1 + k) 0 = msg.getD k maxiPad := by
  rw [State.maxiPlaced, maxiPlacement_of_not_structured plain]
  refine ⟨getD_maxiPadTo (s.size :: msg) (by omega), fun k hk => ?_⟩
  rw [getD_maxiPadTo (s.size :: msg) (by omega), Nat.add_comm 1 k, List.getD_cons_succ]

theorem State.message_readsFrom (s : State) : ReadsFrom (fun k => (s.inBuf.get k).toNat) 0 s.message := fun k hk => by
  rw [State.message, Buffer.nats_getD _ _ _ _ (s.length_message ▸ hk)]

end

/-- Settles O50: the scan stops at the first byte that cannot be encoded by itself, wherever it stands in the code sets; a message within
the capacity fills exactly the data positions of `CW` with its primary part and its pads. -/
theorem maxiProduceResult : Obligations.MaxiProduceResult := by
  intro s config reject byte fails
  have scan : MaxiScanEnds reject byte (maxiSingles 0 0 s.message) (maxiCodewords reject s.message) :=
    maxiScan_ends reject .a 0 s.message_readsFrom
  refine ⟨fun i hi k hfails first => ?charset, fun good => ?encodable, ?message⟩
  case charset =>
    obtain ⟨hk, bad⟩ := hfails
    rcases scan with ⟨good, -⟩ | ⟨k', hk', bad', first', failed⟩
    · exact absurd bad (good k hk)
    · obtain rfl : k = k' := by
        rcases Nat.lt_trichotomy k k' with lower | same | higher
        · exact absurd bad (first' k hk lower)
        · exact same
        · exact absurd ⟨hk', bad'⟩ (first k' higher)
      exact raisesError_of_maxiProduce_raised config (maxiProduce_of_no_codewords failed) hi
  case encodable =>
    rcases scan with ⟨-, encoded⟩ | ⟨k, hk, bad, -⟩
    · exact encoded
    · exact absurd ⟨hk, bad⟩ (good k)
  case message =>
    intro msg encoded mode sec structured v
    have isStructured : maxiIsStructured mode = true ↔ structured := maxiIsStructured_iff mode
    have capacity : maxiCapacity mode = if structured then sec else sec + 9 := if_congr isStructured rfl rfl
    refine ⟨fun fits => ?_, fun long i hi =>
      raisesError_of_maxiProduce_raised config (maxiProduce_of_too_long encoded (capacity.trans_lt long)) hi⟩
    have fits' : msg.length ≤ maxiCapacity s.size := fits.trans_eq capacity.symm
    have secondary : sec ≤ 84 := maxiSecondary_le mode
    have written {k : Nat} (hk : k < 10 + sec) := State.get_maxiPlaced fits' hk
    have atMost : maxiCapacity s.size ≤ 93 := by rw [maxiCapacity_eq]; split_ifs <;> omega
    refine ⟨_, congrArg Host.Outcome.next (firstStage_ok config (maxiProduce_of_fits encoded fits')), fun hs => ⟨fun i hi => ?_,
      fun k hk => ?_⟩, fun hs => ⟨?_, fun k hk => ?_⟩, fun k hk => State.get_maxiPlaced_above fits' hk,
      toNat_of_eq_ofNat rfl (by omega), toNat_of_eq_ofNat rfl (by omega), rfl, toNat_of_eq_ofNat rfl s.size_lt, ?_, rfl⟩
    · obtain ⟨primary, -⟩ := State.getD_maxiPlaced_structured (isStructured.2 hs) msg
      exact (written (by omega)).trans (congrArg _ ((primary i hi).trans (s.getD_maxiPrimary hi)))
    · obtain ⟨-, message⟩ := State.getD_maxiPlaced_structured (isStructured.2 hs) msg
      exact (written (by omega)).trans (congrArg _ (message k hk))
    · obtain ⟨first, -⟩ := State.getD_maxiPlaced_plain (fun h => hs (isStructured.1 h)) msg
      exact (written (by omega)).trans (congrArg _ first)
    · obtain ⟨-, message⟩ := State.getD_maxiPlaced_plain (fun h => hs (isStructured.1 h)) msg
      exact (written (by omega)).trans (congrArg _ (message k hk))
    · exact apply_ite (BitVec.ofNat 4) (mode = 5) 1 0

end Sys2Proof.Machine
end

section
/-! `MAXI_ECC` (46_maxicode_qr_producer R461, R475): the parity of one block with a fixed field of the engine, and the 144 codewords position by
position. -/

namespace Sys2Proof.Machine

/-! ### The parity of one block -/

section
variable {inst : RsInstance} {nroots : Nat} {data : List Nat}

/-- `RsParity(inst, data, nroots)` of one block (41_rs_engine R260). -/
def rsParity (inst : RsInstance) (nroots : Nat) (data : List Nat) : List Nat := (rsParities inst nroots [data]).flatten

theorem rsParity_eq (inst : RsInstance) (nroots : Nat) (data : List Nat) :
    rsParity inst nroots data = lfsrParity data (buildField inst.m inst.poly).alpha (buildField inst.m inst.poly).index
      (inst.generator nroots) (2 ^ inst.m - 1) nroots := by
  simp [rsParity, rsParities, RsInstance.generator]

/-- The blocks are protected one by one (41_rs_engine R260). -/
theorem rsParities_eq_map (inst : RsInstance) (nroots : Nat) (blocks : List (List Nat)) :
    rsParities inst nroots blocks = blocks.map (rsParity inst nroots) :=
  List.map_congr_left fun data _ => (rsParity_eq inst nroots data).symm

/-- The interleave of what each block is made into: position `k·b + j` holds symbol `k` of block `j`. -/
theorem getD_interleave_map (f : List Nat → List Nat) {blocks : List (List Nat)} {len k j : Nat} (hk : k < len)
    (hj : j < blocks.length) :
    (interleave (blocks.map f) len).getD (k * blocks.length + j) 0 = (f (blocks.getD j [])).getD k 0 := by
  have mapped : j < (blocks.map f).length := by rwa [List.length_map]
  have symbol := getD_interleave hk mapped
  rwa [List.length_map, List.getD_eq_getElem _ _ mapped, List.getElem_map, ← List.getD_eq_getElem _ [] hj] at symbol

theorem length_rsParity (h1 : 1 ≤ nroots) (h255 : nroots ≤ 255) : (rsParity inst nroots data).length = nroots := by
  rw [rsParity_eq]
  refine length_lfsrParity h1 ?_ _ _ _ _
  rw [RsInstance.generator, length_buildGenerator _ _ _ _ _ h255]
  omega

theorem mem_rsParity (hm : 1 ≤ inst.m) : ∀ v ∈ rsParity inst nroots data, v < 2 ^ inst.m := by
  rw [rsParity_eq]
  exact mem_lfsrParity (mem_alpha_buildField hm inst.poly) _ _ _ _ _

end

/-! ### The 144 codewords -/

section
variable {mode : Nat} {p q : List Nat}

/-- The two secondary blocks: the codewords at even and at odd positions (46_maxicode_qr_producer R475). -/
def maxiHalves (q : List Nat) : List (List Nat) := [everyNth q 0 2, everyNth q 1 2]

theorem getD_maxiHalves {j n : Nat} (length : q.length = n) (even : n % 2 = 0) (hj : j < 2) :
    (maxiHalves q).getD j [] = (List.range (n / 2)).map fun k => q.getD (2 * k + j) 0 := by
  have block : (maxiHalves q).getD j [] = everyNth q j 2 := by
    obtain rfl | rfl : j = 0 ∨ j = 1 := by omega
    · rfl
    · rfl
  rw [block, everyNth_eq length, show (n - j + 2 - 1) / 2 = n / 2 by omega]
  exact List.map_congr_left fun k _ => congrArg (q.getD · 0) (by omega)

/-- The parity of the secondary message, the two blocks interleaved (46_maxicode_qr_producer R475). -/
def maxiSecondaryParity (mode : Nat) (q : List Nat) : List Nat :=
  interleave ((maxiHalves q).map (rsParity rsMaxi (maxiBlockParity mode))) (maxiBlockParity mode)

theorem maxiProtect_eq (mode : Nat) (p q : List Nat) :
    maxiProtect mode p q = p ++ (rsParity rsMaxi 10 p ++ (q ++ maxiSecondaryParity mode q)) := by
  rw [maxiSecondaryParity, ← rsParities_eq_map, maxiProtect, List.append_assoc, List.append_assoc]
  rfl

theorem length_maxiPrimaryParity (p : List Nat) : (rsParity rsMaxi 10 p).length = 10 := length_rsParity (by decide) (by decide)

theorem length_maxiSecondaryParity (mode : Nat) (q : List Nat) :
    (maxiSecondaryParity mode q).length = maxiBlockParity mode * 2 := length_interleave _ _

/-- Primary and secondary message and their parities are 144 codewords in either scheme (46_maxicode_qr_producer R461). -/
theorem maxiSecondary_add_parity (mode : Nat) : 20 + maxiSecondary mode + maxiBlockParity mode * 2 = 144 := by
  unfold maxiSecondary maxiBlockParity
  split <;> rfl

theorem length_maxiProtect (hp : p.length = 10) (hq : q.length = maxiSecondary mode) : (maxiProtect mode p q).length = 144 := by
  rw [maxiProtect_eq, List.length_append, List.length_append, List.length_append, length_maxiPrimaryParity,
    length_maxiSecondaryParity, hp, hq, ← maxiSecondary_add_parity mode]
  omega

/-- Every codeword has 6 bits (46_maxicode_qr_producer R475). -/
theorem mem_maxiProtect (hp : ∀ v ∈ p, v < 64) (hq : ∀ v ∈ q, v < 64) : ∀ v ∈ maxiProtect mode p q, v < 64 := by
  have parity : ∀ nroots data, ∀ v ∈ rsParity rsMaxi nroots data, v < 64 := fun _ _ => mem_rsParity (inst := rsMaxi) (by decide)
  have secondary : ∀ v ∈ maxiSecondaryParity mode q, v ≤ 63 := mem_interleave fun block hblock v hv => by
    obtain ⟨half, -, rfl⟩ := List.mem_map.1 hblock
    exact Nat.le_of_lt_succ (parity _ _ v hv)
  rw [maxiProtect_eq]
  intro v hv
  simp only [List.mem_append] at hv
  rcases hv with hv | hv | hv | hv
  · exact hp v hv
  · exact parity _ _ v hv
  · exact hq v hv
  · exact Nat.lt_succ_of_le (secondary v hv)

theorem getD_maxiProtect_primary (hp : p.length = 10) {k : Nat} (hk : k < 10) :
    (maxiProtect mode p q).getD k 0 = p.getD k 0 := by
  rw [maxiProtect_eq, List.getD_append _ _ _ _ (by omega)]

theorem getD_maxiProtect_primaryParity (hp : p.length = 10) {k : Nat} (hk : k < 10) :
    (maxiProtect mode p q).getD (10 + k) 0 = (rsParity rsMaxi 10 p).getD k 0 := by
  rw [maxiProtect_eq, List.getD_append_right _ _ _ _ (by omega), hp, Nat.add_sub_cancel_left,
    List.getD_append _ _ _ _ (by rwa [length_maxiPrimaryParity])]

/-- What stands behind the primary message and its parity. -/
theorem getD_maxiProtect_behind (hp : p.length = 10) (k : Nat) :
    (maxiProtect mode p q).getD (20 + k) 0 = (q ++ maxiSecondaryParity mode q).getD k 0 := by
  have front : (p ++ rsParity rsMaxi 10 p).length = 20 := by rw [List.length_append, hp, length_maxiPrimaryParity]
  rw [maxiProtect_eq, ← List.append_assoc, List.getD_append_right _ _ _ _ (by omega), front, Nat.add_sub_cancel_left]

theorem getD_maxiProtect_secondary (hp : p.length = 10) {k : Nat} (hk : k < q.length) :
    (maxiProtect mode p q).getD (20 + k) 0 = q.getD k 0 := by
  rw [getD_maxiProtect_behind hp, List.getD_append _ _ _ _ hk]

/-- Position `2 k + j` of the secondary parity is symbol `k` of block `j` (46_maxicode_qr_producer R475). -/
theorem getD_maxiProtect_secondaryParity (hp : p.length = 10) {k j : Nat} (hk : k < maxiBlockParity mode) (hj : j < 2) :
    (maxiProtect mode p q).getD (20 + q.length + (2 * k + j)) 0 =
      (rsParity rsMaxi (maxiBlockParity mode) ((maxiHalves q).getD j [])).getD k 0 := by
  have symbol := getD_interleave_map (rsParity rsMaxi (maxiBlockParity mode)) (blocks := maxiHalves q) hk hj
  rw [Nat.add_assoc, getD_maxiProtect_behind hp, List.getD_append_right _ _ _ _ (by omega), Nat.add_sub_cancel_left,
    Nat.mul_comm 2 k]
  exact symbol

end

/-! ### The low bits of a codeword -/

theorem getD_map_mod (l : List Nat) (n k : Nat) : (l.map (· % n)).getD k 0 = l.getD k 0 % n := by
  have := List.getD_map (l := l) (d := 0) (n := k) (· % n)
  rwa [Nat.zero_mod] at this

theorem mem_map_mod (l : List Nat) {n : Nat} (hn : 0 < n) : ∀ v ∈ l.map (· % n), v < n :=
  List.forall_mem_map.2 fun v _ => Nat.mod_lt v hn

/-! ### The command -/

section
variable (s : State)

/-- The mode of the selected symbol (10_state R67). -/
abbrev State.maxiMode (s : State) : Nat := s.res.selSize.toNat

/-- The primary message in `CW`; only bits [5:0] of a codeword enter (46_maxicode_qr_producer R475). -/
def State.maxiP (s : State) : List Nat := (s.cw.nats 0 10).map (· % 64)

/-- The secondary message in `CW`. -/
def State.maxiQ (s : State) : List Nat := (s.cw.nats 10 (maxiSecondary s.maxiMode)).map (· % 64)

/-- The codewords of the symbol with their parity. -/
def State.maxiProtected (s : State) : List Nat := maxiProtect s.maxiMode s.maxiP s.maxiQ

theorem State.length_maxiP : s.maxiP.length = 10 := by simp [State.maxiP]

theorem State.length_maxiQ : s.maxiQ.length = maxiSecondary s.maxiMode := by simp [State.maxiQ]

theorem State.getD_maxiP {k : Nat} (hk : k < 10) : s.maxiP.getD k 0 = (s.cw.get k).toNat % 64 := by
  rw [State.maxiP, getD_map_mod, Buffer.nats_getD _ _ _ _ hk, Nat.zero_add]

theorem State.getD_maxiQ {k : Nat} (hk : k < maxiSecondary s.maxiMode) : s.maxiQ.getD k 0 = (s.cw.get (10 + k)).toNat % 64 := by
  rw [State.maxiQ, getD_map_mod, Buffer.nats_getD _ _ _ _ hk]

theorem State.length_maxiProtected : s.maxiProtected.length = 144 := length_maxiProtect s.length_maxiP s.length_maxiQ

theorem State.toNat_get_maxiProtected {k : Nat} (hk : k < 144) :
    ((s.cw.writeNats 0 s.maxiProtected).get k).toNat = s.maxiProtected.getD k 0 := by
  have fits : ∀ v ∈ s.maxiProtected, v < 2 ^ 10 := fun v hv =>
    (mem_maxiProtect (mem_map_mod _ (by decide)) (mem_map_mod _ (by decide)) v hv).trans (by decide)
  have written := Buffer.toNat_get_writeNats s.cw (i := 0) (s.length_maxiProtected.symm ▸ hk)
    (by rw [s.length_maxiProtected]; decide) fits
  rwa [Nat.zero_add] at written

theorem State.get_maxiProtected_above {k : Nat} (hk : 144 ≤ k) : (s.cw.writeNats 0 s.maxiProtected).get k = s.cw.get k :=
  Buffer.get_writeNats_of_not_mem _ _ _ _ (.inr (by rwa [s.length_maxiProtected]))

end

/-- Settles O51: the four parts of the symbol one after another, each codeword narrow enough for its entry of `CW`. -/
theorem maxiEccResult : Obligations.MaxiEccResult := by
  intro s hsym hstage config sec e p q par even odd
  have enhanced : s.res.selSize = 5 ↔ s.maxiMode = 5 := BitVec.toNat_inj.symm
  have hsec : maxiSecondary s.maxiMode = sec := if_congr enhanced.symm rfl rfl
  have he : maxiBlockParity s.maxiMode = e := if_congr enhanced.symm rfl rfl
  have hq : q = s.maxiQ := by rw [State.maxiQ, hsec]
  have total : 20 + sec + e * 2 = 144 := hsec ▸ he ▸ maxiSecondary_add_parity s.maxiMode
  have length : q.length = sec := by rw [hq, s.length_maxiQ, hsec]
  have secEven : sec % 2 = 0 := by dsimp only [sec]; split <;> rfl
  have hpar {k : Nat} (j : Nat) (hk : k < e) (hj : j < 2) :
      ((s.cw.writeNats 0 s.maxiProtected).get (20 + sec + (2 * k + j))).toNat =
        (par e ((List.range (sec / 2)).map fun k => q.getD (2 * k + j) 0)).getD k 0 := by
    have symbol := getD_maxiProtect_secondaryParity (q := s.maxiQ) s.length_maxiP (he.symm ▸ hk) hj
    rw [← hq, length, he, getD_maxiHalves length secEven hj] at symbol
    exact (s.toNat_get_maxiProtected (by omega)).trans (hq ▸ symbol)
  refine ⟨_, congrArg Host.Outcome.next (laterStage_ok_of_same_sym hsym hstage config rfl rfl), fun k hk => ⟨?_, ?_⟩, fun k hk => ?_,
    fun k hk => ⟨?_, ?_⟩, fun k hk => s.get_maxiProtected_above hk, rfl, rfl⟩
  · exact (s.toNat_get_maxiProtected (by omega)).trans ((getD_maxiProtect_primary s.length_maxiP hk).trans (s.getD_maxiP hk))
  · exact (s.toNat_get_maxiProtected (by omega)).trans (getD_maxiProtect_primaryParity s.length_maxiP hk)
  · have hk' : k < maxiSecondary s.maxiMode := hsec.symm ▸ hk
    exact (s.toNat_get_maxiProtected (by omega)).trans
      ((getD_maxiProtect_secondary s.length_maxiP (s.length_maxiQ.symm ▸ hk')).trans (s.getD_maxiQ hk'))
  · exact hpar 0 hk (by decide)
  · exact hpar 1 hk (by decide)

end Sys2Proof.Machine
end

section
/-! QR version selection (46_maxicode_qr_producer R491, R493 to R496): what the cells of `QR_CAPACITY` hold at most, the scan for the
smallest version, the length of the stream, and that the count of a message that fits does not overflow its field. -/

namespace Sys2Proof.Machine

/-! ### The cells of `QR_CAPACITY` -/

section
variable {v n : Nat}

/-- A version reads a cell of one of the rows up to its own (46_maxicode_qr_producer R491; log 18). -/
theorem qrBlocks_mem (h1 : 1 ≤ n) (hv : v ≤ n) (lev : Nat) : qrBlocks .given v lev ∈ (qrCapacity.take n).flatten := by
  have first : (⟨7, 1, 19, 0⟩ : QrBlocks) ∈ (qrCapacity.take n).flatten :=
    (List.take_prefix_take_left h1).flatten.subset (by decide : (⟨7, 1, 19, 0⟩ : QrBlocks) ∈ (qrCapacity.take 1).flatten)
  unfold qrBlocks
  by_cases inRow : lev < (qrCapacity.getD (v - 1) []).length
  · have inTable : v - 1 < qrCapacity.length := by
      by_contra outside
      rw [List.getD_eq_default _ _ (Nat.le_of_not_lt outside)] at inRow
      exact absurd inRow (Nat.not_lt_zero _)
    have row : qrCapacity.getD (v - 1) [] ∈ qrCapacity.take n := by
      rw [List.getD_eq_getElem _ _ inTable]
      exact List.mem_take_iff_getElem.2 ⟨v - 1, by omega, rfl⟩
    rw [Tables.given_qrCapacity, List.getD_eq_getElem _ _ inRow]
    exact List.mem_flatten_of_mem row (List.getElem_mem inRow)
  · rwa [Tables.given_qrCapacity, List.getD_eq_default _ _ (Nat.le_of_not_lt inRow)]

/-- `D` for the versions whose character count has its first width (46_maxicode_qr_producer R491, R494). -/
theorem qrBlocks_data_le_of_le_nine (hv : v ≤ 9) (lev : Nat) : (qrBlocks .given v lev).data ≤ 232 :=
  (by decide : ∀ q ∈ (qrCapacity.take 9).flatten, q.data ≤ 232) _ (qrBlocks_mem (by decide) hv lev)

theorem qrBlocks_data_le_of_le_twentySix (hv : v ≤ 26) (lev : Nat) : (qrBlocks .given v lev).data ≤ 1370 :=
  (by decide : ∀ q ∈ (qrCapacity.take 26).flatten, q.data ≤ 1370) _ (qrBlocks_mem (by decide) hv lev)

theorem qrBlocks_data_le (hv : v ≤ 40) (lev : Nat) : (qrBlocks .given v lev).data ≤ 2956 :=
  (by decide +kernel : ∀ q ∈ (qrCapacity.take 40).flatten, q.data ≤ 2956) _ (qrBlocks_mem (by decide) hv lev)

end

/-! ### The scan for a version -/

section
variable {T : Tables} {gs1 : Bool} {m : QrMode} {size lev n v : Nat}

theorem qrFits_iff (T : Tables) (gs1 : Bool) (m : QrMode) (lev n v : Nat) :
    qrFits T gs1 m lev n v = true ↔ qrLength gs1 m v n ≤ 8 * (qrBlocks T v lev).data := decide_eq_true_iff

/-- The first of the numbers 1 to `k` that passes a test. -/
theorem find?_range_succ_eq_some_iff {p : Nat → Bool} {k v : Nat} :
    ((List.range k).map (· + 1)).find? p = some v ↔ 1 ≤ v ∧ v ≤ k ∧ p v = true ∧ ∀ u, 1 ≤ u → u < v →
      ¬ p u = true := by
  rw [List.find?_map, Option.map_eq_some_iff]
  simp only [List.find?_range_eq_some, Function.comp, List.mem_range, Bool.not_eq_true', Bool.not_eq_true]
  constructor
  · rintro ⟨i, ⟨passes, inside, smaller⟩, rfl⟩
    refine ⟨Nat.succ_pos i, inside, passes, fun u h1 hu => ?_⟩
    simpa [Nat.sub_add_cancel h1] using smaller (u - 1) (by omega)
  · rintro ⟨h1, hk, passes, smaller⟩
    refine ⟨v - 1, ⟨?_, by omega, fun j hj => smaller (j + 1) (Nat.succ_pos j) (by omega)⟩, Nat.sub_add_cancel h1⟩
    rwa [Nat.sub_add_cancel h1]

/-- Automatic selection scans the versions 1 to 40 in their order (46_maxicode_qr_producer R493). -/
theorem qrVersion_auto_iff : qrVersion T gs1 m 0 lev n = .ok v ↔
    1 ≤ v ∧ v ≤ 40 ∧ qrFits T gs1 m lev n v = true ∧ ∀ u, 1 ≤ u → u < v → ¬ qrFits T gs1 m lev n u = true := by
  rw [← find?_range_succ_eq_some_iff, qrVersion, if_pos rfl]
  cases ((List.range 40).map (· + 1)).find? (qrFits T gs1 m lev n) with
  | none => simp
  | some k => simp

theorem qrVersion_auto_error (large : ∀ v, 1 ≤ v → v ≤ 40 → ¬ qrFits T gs1 m lev n v = true) :
    qrVersion T gs1 m 0 lev n = .error (errorAt .capacity 2) := by
  have none_fits : ((List.range 40).map (· + 1)).find? (qrFits T gs1 m lev n) = none := by
    refine List.find?_eq_none.2 fun v hv => ?_
    obtain ⟨i, hi, rfl⟩ := List.mem_map.1 hv
    exact large (i + 1) (Nat.succ_pos i) (List.mem_range.1 hi)
  rw [qrVersion, if_pos rfl, none_fits]

theorem qrVersion_requested (requested : size ≠ 0) (fits : qrFits T gs1 m lev n size = true) :
    qrVersion T gs1 m size lev n = .ok size := by
  rw [qrVersion, if_neg requested, if_pos fits]

theorem qrVersion_requested_error (requested : size ≠ 0) (large : ¬ qrFits T gs1 m lev n size = true) :
    qrVersion T gs1 m size lev n = .error (errorAt .capacity 3) := by
  rw [qrVersion, if_neg requested, if_neg large]

end

/-! ### The length of the stream -/

theorem length_qrNumericBits (bytes : List Nat) : (qrNumericBits bytes).length = qrDataLength .numeric bytes.length := by
  induction bytes using qrNumericBits.induct with
  | case1 => rfl
  | case2 a => simp [qrNumericBits, length_bitsMsb, qrDataLength]
  | case3 a b => simp [qrNumericBits, length_bitsMsb, qrDataLength]
  | case4 a b c rest ih =>
    simp only [qrNumericBits, List.length_append, length_bitsMsb, List.length_cons, ih, qrDataLength, Nat.add_assoc,
      Nat.reduceAdd, Nat.add_mod_right]
    omega

theorem length_qrAlnumBits (bytes : List Nat) : (qrAlnumBits bytes).length = qrDataLength .alnum bytes.length := by
  induction bytes using qrAlnumBits.induct with
  | case1 => rfl
  | case2 a => simp [qrAlnumBits, length_bitsMsb, qrDataLength]
  | case3 a b rest ih =>
    simp only [qrAlnumBits, List.length_append, length_bitsMsb, List.length_cons, ih, qrDataLength]
    omega

theorem length_qrDataBits (m : QrMode) (bytes : List Nat) : (qrDataBits m bytes).length = qrDataLength m bytes.length := by
  cases m with
  | numeric => exact length_qrNumericBits bytes
  | alnum => exact length_qrAlnumBits bytes
  | byte => simp [qrDataBits, qrDataLength, List.length_flatMap, length_bitsMsb, Nat.mul_comm]

theorem length_qrHeader (gs1 : Bool) (m : QrMode) (v n : Nat) :
    (qrHeader gs1 m v n).length = (if gs1 then 4 else 0) + 4 + qrCountBits m v := by
  have indicator : (qrIndicator m).length = 4 := by cases m <;> rfl
  rw [qrHeader, List.length_append, List.length_append, indicator, length_bitsMsb]
  cases gs1 <;> rfl

/-- The stream has `B(v)` bits (46_maxicode_qr_producer R496). -/
theorem length_qrStream (gs1 : Bool) (m : QrMode) (v : Nat) (bytes : List Nat) :
    (qrHeader gs1 m v bytes.length ++ qrDataBits m bytes).length = qrLength gs1 m v bytes.length := by
  rw [List.length_append, length_qrHeader, length_qrDataBits, qrLength]

/-! ### The character count -/

section
variable {m : QrMode} {v n d : Nat}

/-- The data bits of `n` characters need at least this many codewords (46_maxicode_qr_producer R495, R496). -/
theorem lt_of_qrDataLength_le (fits : 8 + qrDataLength m n ≤ 8 * d) :
    match m with
    | .numeric => 10 * n < 24 * d
    | .alnum => 11 * n < 16 * d
    | .byte => n < d := by
  cases m <;> simp only [qrDataLength] at fits ⊢ <;> omega

/-- The widths of the character count suffice for the largest symbols that use them (46_maxicode_qr_producer R494, R496). -/
theorem lt_two_pow_qrCountBits {lev : Nat} {gs1 : Bool} (hv : v ≤ 40)
    (fits : qrLength gs1 m v n ≤ 8 * (qrBlocks .given v lev).data) : n < 2 ^ qrCountBits m v := by
  have small : v ≤ 9 → (qrBlocks .given v lev).data ≤ 232 := fun h => qrBlocks_data_le_of_le_nine h lev
  have medium : v ≤ 26 → (qrBlocks .given v lev).data ≤ 1370 := fun h => qrBlocks_data_le_of_le_twentySix h lev
  have large : (qrBlocks .given v lev).data ≤ 2956 := qrBlocks_data_le hv lev
  generalize (qrBlocks .given v lev).data = d at *
  have width : 8 ≤ 4 + qrCountBits m v := by cases m <;> simp only [qrCountBits] <;> split_ifs <;> omega
  have bound := lt_of_qrDataLength_le (m := m) (n := n) (d := d) (by unfold qrLength at fits; omega)
  cases m with
  | numeric =>
    simp only [qrCountBits] at bound ⊢
    split_ifs <;> omega
  | alnum =>
    simp only [qrCountBits] at bound ⊢
    split_ifs <;> omega
  | byte =>
    simp only [qrCountBits] at bound ⊢
    split_ifs <;> omega

end

/-- Settles O55: the scan stops at the first version that holds the stream, the stream is as long as `B(v)` says, and `D` bounds the
message below the range of its count. -/
theorem qrVersionSelection : Obligations.QrVersionSelection := by
  intro gs1 m lev bytes _ n fits
  have fits_iff : ∀ v, qrFits .given gs1 m lev n v = true ↔ fits v := qrFits_iff .given gs1 m lev n
  refine ⟨fun v => ?_, fun large => qrVersion_auto_error fun v h1 h40 => mt (fits_iff v).1 (large v h1 h40), fun v requested => ?_,
    fun v => length_qrStream gs1 m v bytes, fun v _ h40 holds => lt_two_pow_qrCountBits h40 holds⟩
  · simp only [qrVersion_auto_iff, fits_iff]
  · split
    next holds => exact qrVersion_requested requested ((fits_iff v).2 holds)
    next large => exact qrVersion_requested_error requested (mt (fits_iff v).1 large)

end Sys2Proof.Machine
end

section
/-! `QR_PRODUCE` (46_maxicode_qr_producer R490 to R497): the padded codewords of a stream, the errors that `QR_PRODUCE` and `QR_ENCODE`
share, and the command itself. -/

namespace Sys2Proof.Machine

/-! ### Bit strings -/

theorem bitsMsb_le_one (v n : Nat) : ∀ b ∈ bitsMsb v n, b ≤ 1 := by
  induction n with
  | zero => exact fun _ hb => (nomatch hb)
  | succ n ih => exact List.forall_mem_cons.2 ⟨Nat.le_of_lt_succ (Nat.mod_lt _ (by decide)), ih⟩

/-- A string of `n` bits writes a number of `n` bits (00_scope R13). -/
theorem ofBitsMsb_lt {bs : List Nat} (bits : ∀ b ∈ bs, b ≤ 1) : ofBitsMsb bs < 2 ^ bs.length := by
  induction bs using List.reverseRecOn with
  | nil => decide
  | append_singleton bs b ih =>
    have front := ih fun a ha => bits a (List.mem_append_left _ ha)
    have last : b ≤ 1 := bits b (by simp)
    have value : ofBitsMsb (bs ++ [b]) = 2 * ofBitsMsb bs + b := by simp [ofBitsMsb]
    rw [value, List.length_append, List.length_singleton, Nat.pow_succ]
    omega

section
variable {α : Type} {k fuel : Nat} {xs : List α}

/-- A list of `c` whole pieces is cut into `c` pieces. -/
theorem length_chunksOf {c : Nat} (hk : 0 < k) (whole : xs.length = k * c) (enough : c ≤ fuel) : (chunksOf k fuel xs).length = c := by
  induction fuel generalizing c xs with
  | zero => exact (Nat.le_zero.1 enough).symm
  | succ fuel ih =>
    cases xs with
    | nil =>
      have noPiece : c = 0 := by simpa [Nat.ne_of_gt hk] using whole.symm
      exact noPiece.symm
    | cons x rest =>
      cases c with
      | zero => simp at whole
      | succ c =>
        rw [chunksOf, List.length_cons, ih (c := c) (by rw [List.length_drop, whole, Nat.mul_succ, Nat.add_sub_cancel]) (by omega)]

theorem length_le_of_mem_chunksOf {g : List α} (hg : g ∈ chunksOf k fuel xs) : g.length ≤ k := by
  induction fuel generalizing xs with
  | zero => cases hg
  | succ fuel ih =>
    cases xs with
    | nil => cases hg
    | cons x rest =>
      rcases List.mem_cons.1 hg with rfl | hg
      · exact List.length_take_le _ _
      · exact ih hg

end

/-! ### The stream and its codewords -/

theorem qrHeader_le_one (gs1 : Bool) (m : QrMode) (v n : Nat) : ∀ b ∈ qrHeader gs1 m v n, b ≤ 1 := by
  have fnc1 : ∀ b ∈ (if gs1 then [0, 1, 0, 1] else []), b ≤ 1 := by cases gs1 <;> decide
  have indicator : ∀ b ∈ qrIndicator m, b ≤ 1 := by cases m <;> decide
  exact List.forall_mem_append.2 ⟨List.forall_mem_append.2 ⟨fnc1, indicator⟩, bitsMsb_le_one _ _⟩

theorem qrDataBits_le_one (m : QrMode) (bytes : List Nat) : ∀ b ∈ qrDataBits m bytes, b ≤ 1 := by
  cases m with
  | numeric =>
    unfold qrDataBits
    induction bytes using qrNumericBits.induct with
    | case1 => exact fun _ hb => (nomatch hb)
    | case2 a => exact bitsMsb_le_one _ _
    | case3 a b => exact bitsMsb_le_one _ _
    | case4 a b c rest ih => exact List.forall_mem_append.2 ⟨bitsMsb_le_one _ _, ih⟩
  | alnum =>
    unfold qrDataBits
    induction bytes using qrAlnumBits.induct with
    | case1 => exact fun _ hb => (nomatch hb)
    | case2 a => exact bitsMsb_le_one _ _
    | case3 a b rest ih => exact List.forall_mem_append.2 ⟨bitsMsb_le_one _ _, ih⟩
  | byte =>
    intro b hb
    obtain ⟨byte, -, hb⟩ := List.mem_flatMap.1 hb
    exact bitsMsb_le_one _ _ b hb

theorem length_qrPads (count : Nat) : (qrPads count).length = count := by simp [qrPads]

theorem mem_qrPads (count : Nat) : ∀ w ∈ qrPads count, w < 256 :=
  List.forall_mem_map.2 fun k _ => by split <;> decide

section
variable {bits : List Nat} {d : Nat}

/-- The stream with its terminator (46_maxicode_qr_producer R497). -/
def qrTerminated (bits : List Nat) (d : Nat) : List Nat := bits ++ List.replicate (min 4 (8 * d - bits.length)) 0

/-- The terminated stream filled up with zeros to whole codewords (46_maxicode_qr_producer R497). -/
def qrFilled (bits : List Nat) (d : Nat) : List Nat :=
  qrTerminated bits d ++
    List.replicate (8 * ceilDiv (qrTerminated bits d).length 8 - (qrTerminated bits d).length) 0

/-- The codewords of the filled stream, before the pads (46_maxicode_qr_producer R497). -/
def qrFilledCodewords (bits : List Nat) (d : Nat) : List Nat :=
  (chunksOf 8 (qrFilled bits d).length (qrFilled bits d)).map ofBitsMsb

theorem qrPadded_eq (bits : List Nat) (d : Nat) :
    qrPadded bits d = qrFilledCodewords bits d ++ qrPads (d - (qrFilledCodewords bits d).length) := rfl

theorem length_qrFilled (bits : List Nat) (d : Nat) : (qrFilled bits d).length = 8 * ceilDiv (qrTerminated bits d).length 8 := by
  have := le_mul_ceilDiv (qrTerminated bits d).length (c := 8) (by decide)
  rw [qrFilled, List.length_append, List.length_replicate]
  omega

theorem length_qrFilledCodewords_le (fits : bits.length ≤ 8 * d) : (qrFilledCodewords bits d).length ≤ d := by
  have terminated : (qrTerminated bits d).length ≤ 8 * d := by
    rw [qrTerminated, List.length_append, List.length_replicate]
    omega
  rw [qrFilledCodewords, List.length_map, length_chunksOf (by decide) (length_qrFilled bits d) (by rw [length_qrFilled]; omega)]
  unfold ceilDiv
  omega

/-- A stream that fits gives exactly `D` codewords (46_maxicode_qr_producer R497). -/
theorem length_qrPadded (fits : bits.length ≤ 8 * d) : (qrPadded bits d).length = d := by
  have := length_qrFilledCodewords_le fits
  rw [qrPadded_eq, List.length_append, length_qrPads]
  omega

theorem mem_qrPadded (binary : ∀ b ∈ bits, b ≤ 1) (d : Nat) : ∀ w ∈ qrPadded bits d, w < 256 := by
  have zeros : ∀ n, ∀ b ∈ List.replicate n 0, b ≤ 1 := fun n b hb => by rw [List.eq_of_mem_replicate hb]; decide
  have filled : ∀ b ∈ qrFilled bits d, b ≤ 1 :=
    List.forall_mem_append.2 ⟨List.forall_mem_append.2 ⟨binary, zeros _⟩, zeros _⟩
  rw [qrPadded_eq]
  refine List.forall_mem_append.2 ⟨List.forall_mem_map.2 fun g hg => ?_, mem_qrPads _⟩
  have value := ofBitsMsb_lt fun b hb => filled b (mem_of_mem_chunksOf hg hb)
  exact value.trans_le (Nat.pow_le_pow_right (by decide) (length_le_of_mem_chunksOf hg))

end

section
variable {gs1 : Bool} {m : QrMode} {v lev : Nat} {bytes : List Nat}

theorem length_qrCodewords (fits : qrLength gs1 m v bytes.length ≤ 8 * (qrBlocks .given v lev).data) :
    (qrCodewords .given gs1 m v lev bytes).length = (qrBlocks .given v lev).data :=
  length_qrPadded ((length_qrStream gs1 m v bytes).trans_le fits)

theorem mem_qrCodewords (T : Tables) : ∀ w ∈ qrCodewords T gs1 m v lev bytes, w < 256 :=
  mem_qrPadded (List.forall_mem_append.2 ⟨qrHeader_le_one gs1 m v bytes.length, qrDataBits_le_one m bytes⟩) _

end

/-! ### Mode and version -/

section
variable {T : Tables} {mode size lev n v k : Nat} {bytes : List Nat}

theorem isAlnum_iff (b : Nat) : isAlnum b = true ↔ b ∈ alnumChars := List.contains_iff_mem

theorem qrMode_numeric_error (hmode : mode = 1) (found : firstFailing isDigit bytes 0 = some k) :
    qrMode mode bytes = .error ⟨.charset, 1, BitVec.ofNat 32 k⟩ := by
  simp [hmode, qrMode, qrForced, found]

theorem qrMode_alnum_error (hmode : mode = 2) (found : firstFailing isAlnum bytes 0 = some k) :
    qrMode mode bytes = .error ⟨.charset, 2, BitVec.ofNat 32 k⟩ := by
  simp [hmode, qrMode, qrForced, found]

/-- The selected version is one of the table and holds the stream (46_maxicode_qr_producer R493). -/
theorem qrVersion_fits {gs1 : Bool} {m : QrMode} (selected : qrVersion T gs1 m size lev n = .ok v) (hsize : size ≤ 40) :
    v ≤ 40 ∧ qrLength gs1 m v n ≤ 8 * (qrBlocks T v lev).data := by
  rw [← qrFits_iff]
  by_cases requested : size = 0
  · subst requested
    obtain ⟨-, h40, fits, -⟩ := qrVersion_auto_iff.1 selected
    exact ⟨h40, fits⟩
  · by_cases fits : qrFits T gs1 m lev n size = true
    · rw [qrVersion_requested requested fits] at selected
      cases selected
      exact ⟨hsize, fits⟩
    · rw [qrVersion_requested_error requested fits] at selected
      cases selected

theorem qrBlocks_total_le (hv : v ≤ 40) (lev : Nat) : (qrBlocks .given v lev).total ≤ 3706 :=
  (by decide +kernel : ∀ q ∈ (qrCapacity.take 40).flatten, q.total ≤ 3706) _ (qrBlocks_mem (by decide) hv lev)

end

/-! ### The command -/

section
variable {s : State} {e : CmdError} {m : QrMode}

/-- The version and the level of a legal QR configuration (60_exceptions R724). -/
theorem qr_le_of_checkConfig (config : checkConfig .qr s = none) : s.size ≤ 40 ∧ s.ecl ≤ 3 := by
  simp only [checkConfig, checkSym, checkQr, configFail_eq_none_iff] at config
  obtain ⟨-, -, -, size, ecl, -⟩ := config
  exact ⟨Nat.le_of_not_lt (of_decide_eq_false size), Nat.le_of_not_lt (of_decide_eq_false ecl)⟩

theorem qrProduce_of_no_mode {T : Tables} (failed : qrMode s.mode s.message = .error e) : qrProduce T s = .raised e s := by
  simp only [qrProduce, failed]

theorem qrProduce_of_no_version {T : Tables} (encoded : qrMode s.mode s.message = .ok m)
    (failed : qrVersion T s.gs1 m s.size s.ecl s.n = .error e) : qrProduce T s = .raised e s := by
  simp only [qrProduce, encoded, failed]

theorem qrProduce_of_version {T : Tables} {v : Nat} (encoded : qrMode s.mode s.message = .ok m)
    (selected : qrVersion T s.gs1 m s.size s.ecl s.n = .ok v) :
    qrProduce T s = .ok { s with
      cw := s.cw.writeNats 0 (qrCodewords T s.gs1 m v s.ecl s.message)
      res := { s.res.produced (ceilDiv (qrLength s.gs1 m v s.n) 8) (qrBlocks T v s.ecl).data (qrBlocks T v s.ecl).total v s.ecl
          m.code with qrBits := BitVec.ofNat 16 (qrLength s.gs1 m v s.n) } } := by
  simp only [qrProduce, encoded, selected]

/-- What the produce stage raises, `QR_ENCODE` raises too: no later stage of it runs (40_control_pipeline R234). -/
theorem raisesError_of_qrProduce_raised (config : checkConfig .qr s = none) (raised : qrProduce .given s = .raised e s)
    {i : Instr} (hi : i ∈ [Instr.qrProduce, .qrEncode]) : RaisesError i s e.code.number e.detail e.index := by
  have pipeline : qrPipeline .given s = .raised e s := by simp [qrPipeline, raised]
  obtain rfl | rfl : i = .qrProduce ∨ i = .qrEncode := by simpa using hi
  · exact raisesError_of_exec (congrArg Host.Outcome.next (firstStage_raised config raised))
  · exact raisesError_of_exec (congrArg Host.Outcome.next (firstStage_raised config pipeline))

end

/-- Settles O54: a forced mode names the first byte its scan stops at; a selected version holds the stream, so the padded codewords are `D`
in number and every result fits its register. -/
theorem qrProduceResult : Obligations.QrProduceResult := by
  intro s config byte
  have raises := fun {err} => raisesError_of_qrProduce_raised (s := s) (e := err) config
  refine ⟨fun i hi k hk => ⟨fun hmode bad good => ?_, fun hmode bad good => ?_⟩, fun m encoded =>
    ⟨fun i hi => ⟨fun auto large => ?_, fun requested large => ?_⟩, ?produced⟩⟩
  · have found : firstFailing isDigit s.message 0 = some k := State.firstFailing_message hk (Bool.eq_false_iff.2 bad) good
    exact raises (qrProduce_of_no_mode (qrMode_numeric_error hmode found)) hi
  · have found : firstFailing isAlnum s.message 0 = some k :=
      State.firstFailing_message hk (Bool.eq_false_iff.2 (mt (isAlnum_iff _).1 bad)) fun j hj => (isAlnum_iff _).2 (good j hj)
    exact raises (qrProduce_of_no_mode (qrMode_alnum_error hmode found)) hi
  · have failed : qrVersion .given s.gs1 m s.size s.ecl s.n = .error (errorAt .capacity 2) :=
      auto ▸ qrVersion_auto_error fun v h1 h40 => mt (qrFits_iff _ _ _ _ _ _).1 (large v h1 h40)
    exact raises (qrProduce_of_no_version encoded failed) hi
  · have failed := qrVersion_requested_error requested (mt (qrFits_iff _ _ _ _ _ _).1 large)
    exact raises (qrProduce_of_no_version encoded failed) hi
  case produced =>
    intro v selected q cws
    obtain ⟨hsize, hecl⟩ := qr_le_of_checkConfig config
    obtain ⟨h40, holds⟩ : v ≤ 40 ∧ qrLength s.gs1 m v s.n ≤ 8 * q.data := qrVersion_fits selected hsize
    have data : q.data ≤ 2956 := qrBlocks_data_le h40 s.ecl
    have total : q.total ≤ 3706 := qrBlocks_total_le h40 s.ecl
    have length : cws.length = q.data := length_qrCodewords (s.length_message.symm ▸ holds)
    have code : m.code < 2 ^ 4 := by cases m <;> decide
    have msg : ceilDiv (qrLength s.gs1 m v s.n) 8 = (qrLength s.gs1 m v s.n + 7) / 8 := rfl
    have msgReg : (BitVec.ofNat 13 (ceilDiv (qrLength s.gs1 m v s.n) 8)).toNat = (qrLength s.gs1 m v s.n + 7) / 8 :=
      toNat_of_eq_ofNat rfl (by omega)
    have dataReg : (BitVec.ofNat 13 q.data).toNat = q.data := toNat_of_eq_ofNat rfl (by omega)
    refine ⟨_, congrArg Host.Outcome.next (firstStage_ok config (qrProduce_of_version encoded selected)), length, fun k hk => ?_,
      fun k hk => Buffer.get_writeNats_of_not_mem s.cw 0 k cws (.inr (by omega)), toNat_of_eq_ofNat rfl (by omega), msgReg, dataReg,
      (msgReg.trans_le (by omega)).trans dataReg.ge, toNat_of_eq_ofNat rfl (by omega), toNat_of_eq_ofNat rfl (by omega),
      toNat_of_eq_ofNat rfl (by omega), toNat_of_eq_ofNat rfl code, rfl⟩
    have written := Buffer.toNat_get_writeNats s.cw (i := 0) (vs := cws) (length.symm ▸ hk) (by omega)
      fun w hw => (mem_qrCodewords .given w hw).trans (by decide)
    rwa [Nat.zero_add] at written

end Sys2Proof.Machine
end

section
/-! `QR_ECC` (46_maxicode_qr_producer R491, R505): the data codewords cut into short and long blocks, the interleaves position by position,
and the command itself. -/

namespace Sys2Proof.Machine

/-! ### Cutting the data into blocks -/

section
variable {lens : List Nat} {xs : List Nat}

theorem length_splitBlocks (lens xs : List Nat) : (splitBlocks lens xs).length = lens.length := by
  induction lens generalizing xs with
  | nil => rfl
  | cons len lens ih => rw [splitBlocks, List.length_cons, ih, List.length_cons]

/-- The blocks one after another are the data again. -/
theorem flatten_splitBlocks (whole : xs.length = lens.sum) : (splitBlocks lens xs).flatten = xs := by
  induction lens generalizing xs with
  | nil => exact (List.length_eq_zero_iff.1 whole).symm
  | cons len lens ih =>
    rw [List.sum_cons] at whole
    rw [splitBlocks, List.flatten_cons, ih (by rw [List.length_drop]; omega), List.take_append_drop]

theorem splitBlocks_append (lens more xs : List Nat) :
    splitBlocks (lens ++ more) xs = splitBlocks lens xs ++ splitBlocks more (xs.drop lens.sum) := by
  induction lens generalizing xs with
  | nil => rfl
  | cons len lens ih => rw [List.cons_append, splitBlocks, ih, splitBlocks, List.cons_append, List.sum_cons, List.drop_drop]

/-- Enough data fills every block. -/
theorem length_of_mem_splitBlocks {count len : Nat} (enough : count * len ≤ xs.length) :
    ∀ block ∈ splitBlocks (List.replicate count len) xs, block.length = len := by
  induction count generalizing xs with
  | zero => exact fun _ hb => (nomatch hb)
  | succ count ih =>
    rw [Nat.succ_mul] at enough
    rw [List.replicate_succ, splitBlocks]
    exact List.forall_mem_cons.2 ⟨List.length_take_of_le (by omega), ih (by rw [List.length_drop]; omega)⟩

end

/-! ### The interleave of blocks of two lengths -/

section
variable {short long : List (List Nat)} {d : Nat}

/-- A row inside every block takes one codeword of each (46_maxicode_qr_producer R505). -/
theorem filterMap_getElem?_of_lt {blocks : List (List Nat)} {i : Nat} (inside : ∀ block ∈ blocks, i < block.length) :
    (blocks.filterMap fun block => block[i]?) = blocks.map fun block => block.getD i 0 := by
  rw [← List.filterMap_eq_map']
  refine List.filterMap_congr fun block hblock => ?_
  rw [List.getElem?_eq_getElem (inside block hblock), List.getD_eq_getElem _ _ (inside block hblock)]

/-- A row past every block takes nothing. -/
theorem filterMap_getElem?_of_le {blocks : List (List Nat)} {i : Nat} (outside : ∀ block ∈ blocks, block.length ≤ i) :
    (blocks.filterMap fun block => block[i]?) = [] :=
  List.filterMap_eq_nil_iff.2 fun block hblock => List.getElem?_eq_none (outside block hblock)

theorem interleaveRagged_of_le {blocks : List (List Nat)} (length : ∀ block ∈ blocks, d ≤ block.length) :
    interleaveRagged blocks d = interleave blocks d :=
  List.flatMap_congr fun _ hi =>
    filterMap_getElem?_of_lt fun block hblock => (List.mem_range.1 hi).trans_le (length block hblock)

/-- The rows that every block has, then one row of the long blocks (46_maxicode_qr_producer R505). -/
theorem interleaveRagged_succ (hshort : ∀ block ∈ short, block.length = d) (hlong : ∀ block ∈ long, block.length = d + 1) :
    interleaveRagged (short ++ long) (d + 1) = interleave (short ++ long) d ++ long.map fun block => block.getD d 0 := by
  have atLeast : ∀ block ∈ short ++ long, d ≤ block.length :=
    List.forall_mem_append.2 ⟨fun block h => (hshort block h).ge, fun block h => (Nat.le_succ d).trans (hlong block h).ge⟩
  have lastRow : ((short ++ long).filterMap fun block => block[d]?) = long.map fun block => block.getD d 0 := by
    rw [List.filterMap_append, filterMap_getElem?_of_le fun block h => (hshort block h).le, List.nil_append,
      filterMap_getElem?_of_lt fun block h => (Nat.lt_succ_self d).trans_le (hlong block h).ge]
  have rows : interleaveRagged (short ++ long) (d + 1) =
      interleaveRagged (short ++ long) d ++ ((short ++ long).filterMap fun block => block[d]?) := by
    simp [interleaveRagged, List.range_succ]
  rw [rows, interleaveRagged_of_le atLeast, lastRow]

end

/-! ### The codewords of a symbol -/

section
variable {q : QrBlocks} {data : List Nat}

/-- The `g1` short blocks (46_maxicode_qr_producer R491, R505). -/
def QrBlocks.short (q : QrBlocks) (data : List Nat) : List (List Nat) := splitBlocks (List.replicate q.g1 q.d1) data

/-- The `g2` long blocks (46_maxicode_qr_producer R491, R505). -/
def QrBlocks.long (q : QrBlocks) (data : List Nat) : List (List Nat) :=
  splitBlocks (List.replicate q.g2 (q.d1 + 1)) (data.drop (q.g1 * q.d1))

/-- All blocks in their order (46_maxicode_qr_producer R505). -/
abbrev QrBlocks.split (q : QrBlocks) (data : List Nat) : List (List Nat) := splitBlocks q.lengths data

theorem QrBlocks.split_eq (q : QrBlocks) (data : List Nat) : q.split data = q.short data ++ q.long data := by
  rw [QrBlocks.split, QrBlocks.lengths, splitBlocks_append, List.sum_replicate, smul_eq_mul]
  rfl

theorem QrBlocks.sum_lengths (q : QrBlocks) : q.lengths.sum = q.data := by
  simp [QrBlocks.lengths, QrBlocks.data]

theorem QrBlocks.length_short (q : QrBlocks) (data : List Nat) : (q.short data).length = q.g1 :=
  (length_splitBlocks _ _).trans List.length_replicate

theorem QrBlocks.length_long (q : QrBlocks) (data : List Nat) : (q.long data).length = q.g2 :=
  (length_splitBlocks _ _).trans List.length_replicate

theorem QrBlocks.length_split (q : QrBlocks) (data : List Nat) : (q.split data).length = q.g1 + q.g2 := by
  rw [q.split_eq, List.length_append, q.length_short, q.length_long]

theorem QrBlocks.data_eq (q : QrBlocks) : q.data = q.d1 * (q.g1 + q.g2) + q.g2 := by
  unfold QrBlocks.data
  ring

theorem QrBlocks.total_eq (q : QrBlocks) : q.total = q.data + q.e * (q.g1 + q.g2) := by
  unfold QrBlocks.total QrBlocks.data
  ring

theorem QrBlocks.length_of_mem_short (length : data.length = q.data) : ∀ block ∈ q.short data, block.length = q.d1 :=
  length_of_mem_splitBlocks (length.symm ▸ Nat.le_add_right _ _)

theorem QrBlocks.length_of_mem_long (length : data.length = q.data) : ∀ block ∈ q.long data, block.length = q.d1 + 1 := by
  refine length_of_mem_splitBlocks ?_
  rw [List.length_drop, length, QrBlocks.data, Nat.add_sub_cancel_left]

/-- The interleaved data: the rows that every block has, then the last codewords of the long blocks (46_maxicode_qr_producer R505). -/
def QrBlocks.interleavedData (q : QrBlocks) (data : List Nat) : List Nat :=
  interleave (q.split data) q.d1 ++ (q.long data).map fun block => block.getD q.d1 0

/-- The interleaved parity of the blocks (46_maxicode_qr_producer R505). -/
def QrBlocks.interleavedParity (q : QrBlocks) (data : List Nat) : List Nat :=
  interleave ((q.split data).map (rsParity rsQr q.e)) q.e

theorem interleaveRagged_split (length : data.length = q.data) :
    interleaveRagged (q.split data) (if q.g2 = 0 then q.d1 else q.d1 + 1) = q.interleavedData data := by
  have hshort := QrBlocks.length_of_mem_short length
  have hlong := QrBlocks.length_of_mem_long length
  rw [QrBlocks.interleavedData, q.split_eq]
  split
  next noLong =>
    have nil : q.long data = [] := List.length_eq_zero_iff.1 ((q.length_long data).trans noLong)
    rw [nil, List.append_nil, List.map_nil, List.append_nil]
    exact interleaveRagged_of_le fun block h => (hshort block h).ge
  next => exact interleaveRagged_succ hshort hlong

theorem qrProtect_eq (length : data.length = q.data) :
    qrProtect q data = q.interleavedData data ++ q.interleavedParity data := by
  rw [QrBlocks.interleavedParity, ← rsParities_eq_map, ← interleaveRagged_split length]
  rfl

theorem QrBlocks.length_interleavedData (q : QrBlocks) (data : List Nat) : (q.interleavedData data).length = q.data := by
  rw [QrBlocks.interleavedData, List.length_append, length_interleave, List.length_map, q.length_split, q.length_long, q.data_eq]

theorem length_qrProtect (length : data.length = q.data) : (qrProtect q data).length = q.total := by
  rw [qrProtect_eq length, List.length_append, q.length_interleavedData, QrBlocks.interleavedParity, length_interleave,
    List.length_map, q.length_split, q.total_eq]

/-- Every codeword is a byte (46_maxicode_qr_producer R505). -/
theorem mem_qrProtect (length : data.length = q.data) (bytes : ∀ v ∈ data, v < 256) : ∀ v ∈ qrProtect q data, v < 256 := by
  have blockBytes : ∀ block ∈ q.split data, ∀ v ∈ block, v ≤ 255 := fun block hblock v hv => by
    have inData : v ∈ (q.split data).flatten := List.mem_flatten_of_mem hblock hv
    rw [flatten_splitBlocks (length.trans q.sum_lengths.symm)] at inData
    exact Nat.le_of_lt_succ (bytes v inData)
  have parityBytes : ∀ block ∈ (q.split data).map (rsParity rsQr q.e), ∀ v ∈ block, v ≤ 255 := fun block hblock v hv => by
    obtain ⟨source, -, rfl⟩ := List.mem_map.1 hblock
    exact Nat.le_of_lt_succ (mem_rsParity (inst := rsQr) (by decide) v hv)
  have lastBytes : ∀ v ∈ (q.long data).map fun block => block.getD q.d1 0, v ≤ 255 := fun v hv => by
    obtain ⟨block, hblock, rfl⟩ := List.mem_map.1 hv
    exact getD_le_of_mem_le (blockBytes block (q.split_eq data ▸ List.mem_append_right _ hblock)) _
  rw [qrProtect_eq length]
  refine fun v hv => Nat.lt_succ_of_le (?_ : v ≤ 255)
  simp only [QrBlocks.interleavedData, QrBlocks.interleavedParity, List.mem_append] at hv
  rcases hv with (hv | hv) | hv
  · exact mem_interleave blockBytes v hv
  · exact lastBytes v hv
  · exact mem_interleave parityBytes v hv

/-- A position inside `n` rows of `b`. -/
theorem row_add_lt {i j n b : Nat} (hi : i < n) (hj : j < b) : i * b + j < n * b :=
  calc i * b + j < i * b + b := Nat.add_lt_add_left hj _
    _ = (i + 1) * b := (Nat.succ_mul i b).symm
    _ ≤ n * b := Nat.mul_le_mul_right b hi

theorem getD_interleavedData_row {i j : Nat} (hi : i < q.d1) (hj : j < q.g1 + q.g2) :
    (q.interleavedData data).getD (i * (q.g1 + q.g2) + j) 0 = ((q.split data).getD j []).getD i 0 := by
  have count := q.length_split data
  have symbol := getD_interleave hi (count.symm ▸ hj)
  rw [count] at symbol
  rw [QrBlocks.interleavedData, List.getD_append _ _ _ _ (by rw [length_interleave, count]; exact row_add_lt hi hj), symbol]

theorem getD_interleavedData_last {j : Nat} (hj : j < q.g2) :
    (q.interleavedData data).getD (q.d1 * (q.g1 + q.g2) + j) 0 = ((q.split data).getD (q.g1 + j) []).getD q.d1 0 := by
  have inLong : j < (q.long data).length := (q.length_long data).symm ▸ hj
  have rows : (interleave (q.split data) q.d1).length = q.d1 * (q.g1 + q.g2) := by rw [length_interleave, q.length_split]
  have block : (q.split data).getD (q.g1 + j) [] = (q.long data).getD j [] := by
    rw [q.split_eq, List.getD_append_right _ _ _ _ (by rw [q.length_short]; omega), q.length_short, Nat.add_sub_cancel_left]
  rw [QrBlocks.interleavedData, List.getD_append_right _ _ _ _ (by omega), rows, Nat.add_sub_cancel_left, block,
    List.getD_eq_getElem _ _ (by rwa [List.length_map]), List.getElem_map, List.getD_eq_getElem _ [] inLong]

theorem getD_interleavedParity {i j : Nat} (hi : i < q.e) (hj : j < q.g1 + q.g2) :
    (q.interleavedParity data).getD (i * (q.g1 + q.g2) + j) 0 = (rsParity rsQr q.e ((q.split data).getD j [])).getD i 0 := by
  have count := q.length_split data
  have symbol := getD_interleave_map (rsParity rsQr q.e) hi (count.symm ▸ hj)
  rwa [count] at symbol

end

/-! ### The command -/

section
variable {s : State} {q : QrBlocks}

/-- The first `D` codewords in `CW`; only bits [7:0] of a codeword enter (46_maxicode_qr_producer R505). -/
def State.qrData (s : State) (q : QrBlocks) : List Nat := (s.cw.nats 0 q.data).map (· % 256)

theorem State.length_qrData (s : State) (q : QrBlocks) : (s.qrData q).length = q.data := by simp [State.qrData]

/-- `CW` after the symbol's codewords are written (46_maxicode_qr_producer R505). -/
def State.qrProtected (s : State) (q : QrBlocks) : CwBuffer := s.cw.writeNats 0 (qrProtect q (s.qrData q))

theorem State.toNat_get_qrProtected (inside : q.total ≤ 4096) {k : Nat} (hk : k < q.total) :
    ((s.qrProtected q).get k).toNat = (qrProtect q (s.qrData q)).getD k 0 := by
  have length := length_qrProtect (s.length_qrData q)
  have written := Buffer.toNat_get_writeNats s.cw (i := 0) (length.symm ▸ hk) (by omega) fun v hv =>
    (mem_qrProtect (s.length_qrData q) (mem_map_mod _ (by decide)) v hv).trans (by decide)
  rwa [Nat.zero_add] at written

theorem State.get_qrProtected_above {k : Nat} (hk : q.total ≤ k) : (s.qrProtected q).get k = s.cw.get k :=
  Buffer.get_writeNats_of_not_mem _ _ _ _ (.inr (by rwa [length_qrProtect (s.length_qrData q), Nat.zero_add]))

/-- The data part of the symbol. -/
theorem State.toNat_get_qrProtected_data (inside : q.total ≤ 4096) {k : Nat} (hk : k < q.data) :
    ((s.qrProtected q).get k).toNat = (q.interleavedData (s.qrData q)).getD k 0 := by
  have total := q.total_eq
  rw [s.toNat_get_qrProtected inside (by omega), qrProtect_eq (s.length_qrData q),
    List.getD_append _ _ _ _ (by rwa [q.length_interleavedData])]

/-- The parity part of the symbol. -/
theorem State.toNat_get_qrProtected_parity (inside : q.total ≤ 4096) {k : Nat} (hk : k < q.e * (q.g1 + q.g2)) :
    ((s.qrProtected q).get (q.data + k)).toNat = (q.interleavedParity (s.qrData q)).getD k 0 := by
  have total := q.total_eq
  rw [s.toNat_get_qrProtected inside (by omega), qrProtect_eq (s.length_qrData q),
    List.getD_append_right _ _ _ _ (by rw [q.length_interleavedData]; omega), q.length_interleavedData, Nat.add_sub_cancel_left]

end

/-- Settles O56: the blocks are the data cut in order, the short ones first, so the interleave is the rows that every block has and one row
of the long blocks; the interleaved parity follows, each codeword a byte. -/
theorem qrEccResult : Obligations.QrEccResult := by
  intro s hsym hstage config _ h40 _ q data blocks par b
  have total : q.total ≤ 3706 := qrBlocks_total_le h40 _
  have inside : q.total ≤ 4096 := total.trans (by decide)
  have cut : q.data = q.d1 * b + q.g2 := q.data_eq
  have dataLength : data.length = q.data := s.length_qrData q
  have count : blocks.length = b := q.length_split data
  have parity : ∀ j, j < b → par.getD j [] = rsParity rsQr q.e (blocks.getD j []) := fun j hj => by
    have hj' : j < blocks.length := hj.trans_eq count.symm
    simp only [par, rsParities_eq_map]
    rw [List.getD_eq_getElem _ _ (by rwa [List.length_map]), List.getElem_map, List.getD_eq_getElem _ [] hj']
  refine ⟨_, congrArg Host.Outcome.next (laterStage_ok_of_same_sym hsym hstage config rfl rfl),
    flatten_splitBlocks (dataLength.trans q.sum_lengths.symm), count, fun i j hi hj => ?_, fun j hj => ?_, fun i j hi hj => ?_,
    fun k hk => s.get_qrProtected_above hk, toNat_of_eq_ofNat rfl (total.trans_lt (by decide)), rfl⟩
  · have row : i * b + j < q.data := by
      have := row_add_lt hi hj
      omega
    exact (s.toNat_get_qrProtected_data inside row).trans (getD_interleavedData_row hi hj)
  · have last : q.d1 * b + j < q.data := by omega
    exact (s.toNat_get_qrProtected_data inside last).trans (getD_interleavedData_last hj)
  · rw [parity j hj, Nat.add_assoc]
    exact (s.toNat_get_qrProtected_parity inside (row_add_lt hi hj)).trans (getD_interleavedParity hi hj)

end Sys2Proof.Machine
end

section
/-! `DM_LAYOUT` (47_dm_maxicode_layout R520, R523): the frame of a region seen at the edges of the symbol, and the command itself. What a
layout command leaves of a symbol given module by module serves `MAXI_LAYOUT` too. -/

namespace Sys2Proof.Machine

/-! ### The matrix of a symbol given module by module -/

/-- The matrix of a layout command holds the symbol, and 0 outside its extent (10_state R79, 40_control_pipeline R214). -/
theorem get_matOfRows_ofFn {h w : Nat} (moduleAt : Nat → Nat → BitVec 2) {r c : Nat} (hr : r < 256) (hc : c < 1024) :
    (matOfRows (Grid.ofFn h w moduleAt)).get (matIndex r c) = if r < h ∧ c < w then moduleAt r c else 0 := by
  rw [get_matOfRows _ r c hc hr]
  split
  next inside => exact Grid.getD_ofFn _ _ _ _ _ _ inside.1 inside.2
  next outside => exact Grid.getD_ofFn_outside _ _ _ _ _ _ (by omega)

theorem get_matOfRows_ofFn_inside {h w : Nat} (moduleAt : Nat → Nat → BitVec 2) (hh : h ≤ 256) (hw : w ≤ 1024) {r c : Nat}
    (hr : r < h) (hc : c < w) : (matOfRows (Grid.ofFn h w moduleAt)).get (matIndex r c) = moduleAt r c := by
  rw [get_matOfRows_ofFn moduleAt (hr.trans_le hh) (hc.trans_le hw), if_pos ⟨hr, hc⟩]

/-! ### The edges of a symbol -/

/-- The last of `k` periods ends at the last place of a period. -/
theorem mul_sub_one_mod_self {k : Nat} (hk : 0 < k) (n : Nat) : (k * (n + 2) - 1) % (n + 2) = n + 1 := by
  obtain ⟨i, rfl⟩ := Nat.exists_eq_succ_of_ne_zero hk.ne'
  rw [Nat.succ_mul, Nat.add_sub_assoc (by omega), Nat.mul_add_mod_self_right]
  exact Nat.mod_eq_of_lt (by omega)

section
variable {z : DmSize} (a : Grid (Option Nat)) (filled : Bool)

theorem dmSymbolModule_left (r : Nat) : dmSymbolModule z a filled r 0 = moduleBits true true := by
  simp [dmSymbolModule]

theorem dmSymbolModule_bottom (regions : 0 < z.regionsV) (c : Nat) :
    dmSymbolModule z a filled (z.rows - 1) c = moduleBits true true := by
  have lastRow : (z.rows - 1) % (z.regionRows + 2) = z.regionRows + 1 := mul_sub_one_mod_self regions _
  simp [dmSymbolModule, lastRow]

/-- A region has an even number of columns, so the clock track runs on from one region to the next. -/
theorem dmSymbolModule_top (even : z.regionCols % 2 = 0) (c : Nat) :
    dmSymbolModule z a filled 0 c = moduleBits (c % 2 == 0) true := by
  have sameParity : c % (z.regionCols + 2) % 2 = c % 2 := Nat.mod_mod_of_dvd c (by omega)
  by_cases first : c % (z.regionCols + 2) = 0
  · have dark : c % 2 = 0 := by omega
    simp [dmSymbolModule, first, dark]
  · simp [dmSymbolModule, first, sameParity]

/-- The right edge is a clock track too; where it meets the other two edges they agree with it, for rows and columns of a region are even
in number. -/
theorem dmSymbolModule_right (regions : 0 < z.regionsH) (evenRows : z.regionRows % 2 = 0) (evenCols : z.regionCols % 2 = 0) (r : Nat) :
    dmSymbolModule z a filled r (z.cols - 1) = moduleBits (r % 2 == 1) true := by
  have lastCol : (z.cols - 1) % (z.regionCols + 2) = z.regionCols + 1 := mul_sub_one_mod_self regions _
  have sameParity : r % (z.regionRows + 2) % 2 = r % 2 := Nat.mod_mod_of_dvd r (by omega)
  by_cases last : r % (z.regionRows + 2) = z.regionRows + 1
  · have dark : r % 2 = 1 := by omega
    simp [dmSymbolModule, last, dark]
  by_cases first : r % (z.regionRows + 2) = 0
  · have light : r % 2 = 0 := by omega
    have odd : (z.regionCols + 1) % 2 = 1 := by omega
    simp [dmSymbolModule, first, lastCol, light, odd]
  · simp [dmSymbolModule, last, first, lastCol, sameParity]

end

/-! ### The command -/

/-- Every size has regions, with an even number of rows and columns each (44_dm_producer R360). -/
theorem dmSize_regions (size : Nat) :
    let z := dmSize .given size
    0 < z.regionsV ∧ 0 < z.regionsH ∧ z.regionRows % 2 = 0 ∧ z.regionCols % 2 = 0 :=
  (by decide : ∀ z ∈ dmSizes, 0 < z.regionsV ∧ 0 < z.regionsH ∧ z.regionRows % 2 = 0 ∧ z.regionCols % 2 = 0) _ (dmSize_mem size)

/-- The extent of a symbol (44_dm_producer R360). -/
theorem dmSize_extent (size : Nat) :
    let z := dmSize .given size
    0 < z.rows ∧ z.rows ≤ 144 ∧ 0 < z.cols ∧ z.cols ≤ 144 :=
  (by decide : ∀ z ∈ dmSizes, 0 < z.rows ∧ z.rows ≤ 144 ∧ 0 < z.cols ∧ z.cols ≤ 144) _ (dmSize_mem size)

/-- Settles O41: the symbol is given module by module, and at its edges every module is one of the frame of a region. -/
theorem dmLayoutResult : Obligations.DmLayoutResult := by
  intro s hsym hstage config _ _ z symbol
  obtain ⟨regionsV, regionsH, evenRows, evenCols⟩ := dmSize_regions s.selLow
  obtain ⟨rows_pos, rows_le, cols_pos, cols_le⟩ := dmSize_extent s.selLow
  have inside {r c : Nat} (hr : r < z.rows) (hc : c < z.cols) : (matOfRows symbol).get (matIndex r c) = dmSymbolModule z _ _ r c :=
    get_matOfRows_ofFn_inside _ (rows_le.trans (by decide)) (cols_le.trans (by decide)) hr hc
  refine ⟨_, congrArg Host.Outcome.next (laterStage_ok_of_same_sym hsym hstage config rfl rfl),
    toNat_of_eq_ofNat rfl (cols_le.trans_lt (by decide)), toNat_of_eq_ofNat rfl (rows_le.trans_lt (by decide)),
    fun r c hr hc => ?_, fun r hr => ⟨?_, ?_⟩, fun c hc => ⟨?_, ?_⟩, rfl⟩
  · refine (get_matOfRows symbol r c hc hr).trans ?_
    split
    next => rfl
    next outside => exact Grid.getD_ofFn_outside _ _ _ _ _ _ (by omega)
  · exact (inside hr cols_pos).trans (dmSymbolModule_left _ _ r)
  · exact (inside hr (Nat.sub_one_lt_of_lt cols_pos)).trans (dmSymbolModule_right _ _ regionsH evenRows evenCols r)
  · exact (inside (Nat.sub_one_lt_of_lt rows_pos) hc).trans (dmSymbolModule_bottom _ _ regionsV c)
  · exact (inside rows_pos hc).trans (dmSymbolModule_top _ _ evenCols c)

end Sys2Proof.Machine
end

section
/-! `MAXI_LAYOUT` (47_dm_maxicode_layout R530 to R533): whatever the OPEN cell order is (log 13), the grid holds each codeword bit at the cell
`MAXI_MAP` names for it. -/

namespace Sys2Proof.Machine

/-! ### The cells of the grid -/

/-- The cells of `MAXI_MAP` lie in the grid (47_dm_maxicode_layout R531). -/
theorem maxiMap_lt (p : Fin 144) (j : Fin 6) : (maxiMap p j).1 < 33 ∧ (maxiMap p j).2 < 30 := by
  have cell := (Config.maxiCellOrder ⟨6 * p.val + j.val, by omega⟩).isLt
  exact ⟨Nat.div_lt_of_lt_mul cell, Nat.mod_lt _ (by decide)⟩

theorem maxiCellOfPlace_bit (p : Fin 144) (j : Fin 6) : maxiCellOfPlace (6 * p.val + j.val) = .codewordBit p j := by
  rw [maxiCellOfPlace, if_pos (by omega), show (6 * p.val + j.val) / 6 = p by omega, show (6 * p.val + j.val) % 6 = j by omega]

/-- The place of the cell `MAXI_MAP[p][j]` in the order of log 13 is the one it was taken from (47_dm_maxicode_layout R531). -/
theorem maxiCellAt_maxiMap (p : Fin 144) (j : Fin 6) : maxiCellAt (maxiMap p j).1 (maxiMap p j).2 = .codewordBit p j := by
  have cellNumber : 30 * (maxiMap p j).1 + (maxiMap p j).2 = (Config.maxiCellOrder ⟨6 * p.val + j.val, by omega⟩).val :=
    Nat.div_add_mod _ 30
  simp only [maxiCellAt, cellNumber, Fin.isLt, dif_pos, Fin.eta, Equiv.symm_apply_apply]
  exact maxiCellOfPlace_bit p j

section
variable {cws : List Nat} {r c p j : Nat}

theorem maxiModule_bit (cell : maxiCellAt r c = .codewordBit p j) :
    maxiModule cws r c = moduleBits ((cws.getD p 0).testBit (5 - j)) false := by
  rw [maxiModule, cell, Nat.testBit_eq_decide_div_mod_eq]
  rfl

theorem maxiModule_fixed (cell : maxiCellAt r c = .fixed) : maxiModule cws r c = moduleBits true true := by
  rw [maxiModule, cell]

theorem maxiModule_unused (cell : maxiCellAt r c = .unused) : maxiModule cws r c = 0 := by
  rw [maxiModule, cell]
  rfl

end

/-! ### The command -/

/-- Settles O52: a module of the grid is that of its cell, and the cell of `MAXI_MAP[p][j]` is that of bit `5 − j` of codeword `p`. -/
theorem maxiLayoutResult : Obligations.MaxiLayoutResult := by
  intro s hsym hstage config
  have inside {r c : Nat} (hr : r < 33) (hc : c < 30) :=
    get_matOfRows_ofFn_inside (maxiModule (s.cw.nats 0 144)) (by decide : 33 ≤ 256) (by decide : 30 ≤ 1024) hr hc
  refine ⟨_, congrArg Host.Outcome.next (laterStage_ok_of_same_sym hsym hstage config rfl rfl), rfl, rfl, fun p j => ?_,
    fun r c hr hc cell => (inside hr hc).trans (maxiModule_fixed cell), fun r c hr hc empty => ?_, rfl⟩
  · obtain ⟨hrow, hcol⟩ := maxiMap_lt p j
    have bit := (inside hrow hcol).trans (maxiModule_bit (maxiCellAt_maxiMap p j))
    rwa [Buffer.nats_getD _ _ _ _ p.isLt, Nat.zero_add] at bit
  · refine (get_matOfRows_ofFn _ hr hc).trans ?_
    split
    next extent => exact maxiModule_unused (empty.resolve_left (by omega) |>.resolve_left (by omega))
    next => rfl

end Sys2Proof.Machine
end

section
/-! Every error is the error outcome (60_exceptions R715, R717): a rule raises before it writes anything, but for the pipelines of
`DM_ENCODE` and `PDF_ENCODE`, which have stored their plan. -/

namespace Sys2Proof.Machine

/-! ### What a rule that raises has written -/

/-- A rule that raises before it writes anything (60_exceptions R717). -/
def RaisesUnchanged (rule : State → CmdResult) : Prop := ∀ ⦃s u : State⦄ ⦃e : CmdError⦄, rule s = .raised e u → u = s

/-- A rule that has at most stored a plan when it raises (60_exceptions R717). -/
def RaisesWithPlan (rule : State → CmdResult) : Prop :=
  ∀ ⦃s u : State⦄ ⦃e : CmdError⦄, rule s = .raised e u → ∃ plan res, u = { s with plan := plan, res := res }

section
variable {rule next : State → CmdResult}

/-- A rule that raises only on the state it is given. -/
theorem RaisesUnchanged.of_raised_self (h : ∀ s, (∃ u, rule s = .ok u) ∨ ∃ e, rule s = .raised e s) : RaisesUnchanged rule := by
  intro s u e hr
  rcases h s with ⟨v, hv⟩ | ⟨e', he'⟩
  · exact absurd (hv.symm.trans hr) nofun
  · rw [he'] at hr
    injection hr with _ hu
    exact hu.symm

/-- A rule that never raises. -/
theorem RaisesUnchanged.of_ok (h : ∀ s, ∃ u, rule s = .ok u) : RaisesUnchanged rule :=
  .of_raised_self fun s => .inl (h s)

/-- Behind a rule a rule that never raises raises nothing more. -/
theorem RaisesUnchanged.andThen_ok (hr : RaisesUnchanged rule) (hn : ∀ s, ∃ u, next s = .ok u) :
    RaisesUnchanged fun s => (rule s).andThen next := by
  intro s u e h
  rcases CmdResult.andThen_eq_raised.1 h with h | ⟨t, -, h⟩
  · exact hr h
  · obtain ⟨v, hv⟩ := hn t
    exact absurd (hv.symm.trans h) nofun

theorem RaisesWithPlan.andThen_ok (hr : RaisesWithPlan rule) (hn : ∀ s, ∃ u, next s = .ok u) :
    RaisesWithPlan fun s => (rule s).andThen next := by
  intro s u e h
  rcases CmdResult.andThen_eq_raised.1 h with h | ⟨t, -, h⟩
  · exact hr h
  · obtain ⟨v, hv⟩ := hn t
    exact absurd (hv.symm.trans h) nofun

theorem RaisesUnchanged.raisesWithPlan (hr : RaisesUnchanged rule) : RaisesWithPlan rule := by
  intro s u e h
  exact ⟨_, _, hr h⟩

/-- An optimize stage that stores a plan, then a produce stage that raises before it writes anything. -/
theorem RaisesUnchanged.andThen_storePlan (hr : RaisesUnchanged rule) (stores : ∀ ⦃s u⦄, rule s = .ok u → ∃ codes, u = s.storePlan codes)
    (hn : RaisesUnchanged next) : RaisesWithPlan fun s => (rule s).andThen next := by
  intro s u e h
  rcases CmdResult.andThen_eq_raised.1 h with h | ⟨t, ht, h⟩
  · exact hr.raisesWithPlan h
  · obtain ⟨codes, rfl⟩ := stores ht
    exact ⟨_, _, hn h⟩

end

/-! ### The rules of the commands -/

theorem dmLayout_never_raises (T : Tables) (s : State) : ∃ u, dmLayout T s = .ok u := ⟨_, rfl⟩

theorem dmEcc_never_raises (T : Tables) (s : State) : ∃ u, dmEcc T s = .ok u := ⟨_, rfl⟩

theorem pdfEcc_never_raises (s : State) : ∃ u, pdfEcc s = .ok u := ⟨_, rfl⟩

theorem pdfLayout_never_raises (s : State) : ∃ u, pdfLayout s = .ok u := ⟨_, rfl⟩

theorem maxiEcc_never_raises (s : State) : ∃ u, maxiEcc s = .ok u := ⟨_, rfl⟩

theorem maxiLayout_never_raises (s : State) : ∃ u, maxiLayout s = .ok u := ⟨_, rfl⟩

theorem qrEcc_never_raises (T : Tables) (s : State) : ∃ u, qrEcc T s = .ok u := ⟨_, rfl⟩

theorem qrLayout_never_raises (T : Tables) (s : State) : ∃ u, qrLayout T s = .ok u := ⟨_, rfl⟩

theorem qrMask_never_raises (s : State) : ∃ u, qrMask s = .ok u := ⟨_, rfl⟩

theorem dmOptimize_raisesUnchanged (T : Tables) : RaisesUnchanged (dmOptimize T) := fun _ _ _ h => dmOptimize_raised h

theorem dmProduce_raisesUnchanged (T : Tables) : RaisesUnchanged (dmProduce T) := fun _ _ _ h => dmProduce_raised h

theorem dmPipeline_raisesWithPlan (T : Tables) : RaisesWithPlan (dmPipeline T) := by
  have planned := (dmOptimize_raisesUnchanged T).andThen_storePlan
    (fun s u h => ((dmOptimize_ok_iff T s u).1 h).2.imp' _ fun _ hu => hu.2) (dmProduce_raisesUnchanged T)
  exact (planned.andThen_ok (dmEcc_never_raises T)).andThen_ok (dmLayout_never_raises T)

theorem pdfOptimize_raisesUnchanged (T : Tables) : RaisesUnchanged (pdfOptimize T) := fun _ _ _ h => pdfOptimize_raised h

theorem pdfProduce_raisesUnchanged (T : Tables) : RaisesUnchanged (pdfProduce T) :=
  .of_raised_self fun s => (pdfProduce_cases T s).imp_left fun ⟨_, _, _, _, _, h⟩ => ⟨_, h⟩

theorem pdfPipeline_raisesWithPlan (T : Tables) : RaisesWithPlan (pdfPipeline T) := by
  have planned := (pdfOptimize_raisesUnchanged T).andThen_storePlan
    (fun s u h => ((pdfOptimize_ok_iff T s u).1 h).imp' _ fun _ hu => hu.2) (pdfProduce_raisesUnchanged T)
  exact (planned.andThen_ok pdfEcc_never_raises).andThen_ok pdfLayout_never_raises

theorem maxiProduce_raisesUnchanged : RaisesUnchanged maxiProduce :=
  .of_raised_self fun s => (maxiProduce_cases s).imp_left fun ⟨_, _, h⟩ => ⟨_, h⟩

theorem maxiPipeline_raisesUnchanged : RaisesUnchanged maxiPipeline :=
  (maxiProduce_raisesUnchanged.andThen_ok maxiEcc_never_raises).andThen_ok maxiLayout_never_raises

theorem qrProduce_raisesUnchanged (T : Tables) : RaisesUnchanged (qrProduce T) :=
  .of_raised_self fun s => (qrProduce_cases T s).imp_left fun ⟨_, _, h⟩ => ⟨_, h⟩

theorem qrPipeline_raisesUnchanged (T : Tables) : RaisesUnchanged (qrPipeline T) :=
  (((qrProduce_raisesUnchanged T).andThen_ok (qrEcc_never_raises T)).andThen_ok (qrLayout_never_raises T)).andThen_ok
    qrMask_never_raises

theorem rsEncode_raisesUnchanged : RaisesUnchanged rsEncode :=
  .of_raised_self fun s => (rsEncode_cases s).symm.imp_left fun ⟨_, h⟩ => ⟨_, h⟩

theorem rs929Encode_raisesUnchanged : RaisesUnchanged rs929Encode :=
  .of_raised_self fun s => (rs929Encode_cases s).symm.imp_left fun ⟨_, h⟩ => ⟨_, h⟩

/-! ### How a command can fail -/

/-- The two commands that may have stored a plan before they raise (40_control_pipeline R230, R231). -/
abbrev StoresPlanFirst (i : Instr) : Prop := i = .dmEncode ∨ i = .pdfEncode

/-- The states a command can end in without `DONE` (60_exceptions R715, R717, 41_rs_engine R243). -/
inductive CommandFails (s : State) : Instr → State → Prop
  | initFails (e : CmdError) : CommandFails s .rsInit (s.raiseRsInit e)
  | raises {i : Instr} (hi : i ≠ .rsInit) (e : CmdError) : CommandFails s i (s.raise e)
  | raisesWithPlan {i : Instr} (hi : StoresPlanFirst i) (plan : PlanBuffer) (res : ResultRegs) (e : CmdError) :
      CommandFails s i (State.raise { s with plan := plan, res := res } e)

/-- A command that leaves `t` is done or has failed. -/
def DoneOrFails (i : Instr) (s t : State) : Prop := t.done = true ∨ CommandFails s i t

section
variable {i : Instr} {sym : PipeSym} {needs leaves : PipeStage} {rule : State → CmdResult} {s t : State}

theorem finish_doneOrFails (hi : i ≠ .rsInit) (hr : RaisesUnchanged rule) (s : State) : DoneOrFails i s (rule s).finish := by
  cases hc : rule s with
  | ok u => exact .inl rfl
  | raised e u => exact .inr (hr hc ▸ .raises hi e)

theorem firstStage_doneOrFails (hi : i ≠ .rsInit) (hr : RaisesUnchanged rule) (s : State) :
    DoneOrFails i s (firstStage sym leaves rule s) := by
  rcases firstStage_cases sym leaves rule s with ⟨e, -, hs⟩ | ⟨-, e, u, hu, hs⟩ | ⟨-, u, -, hs⟩ <;> rw [hs]
  · exact .inr (.raises hi e)
  · exact .inr (hr hu ▸ .raises hi e)
  · exact .inl rfl

theorem firstStage_doneOrFails_withPlan (hi : StoresPlanFirst i) (hr : RaisesWithPlan rule) (s : State) :
    DoneOrFails i s (firstStage sym leaves rule s) := by
  rcases firstStage_cases sym leaves rule s with ⟨e, -, hs⟩ | ⟨-, e, u, hu, hs⟩ | ⟨-, u, -, hs⟩ <;> rw [hs]
  · exact .inr (.raisesWithPlan hi s.plan s.res e)
  · obtain ⟨plan, res, rfl⟩ := hr hu
    exact .inr (.raisesWithPlan hi plan res e)
  · exact .inl rfl

theorem laterStage_doneOrFails (hi : i ≠ .rsInit) (hr : RaisesUnchanged rule) (s : State) :
    DoneOrFails i s (laterStage sym needs leaves rule s) := by
  rcases laterStage_cases sym needs leaves rule s with ⟨-, hs⟩ | ⟨⟨hsym, hstage⟩, -⟩
  · rw [hs]
    exact .inr (.raises hi _)
  · rw [laterStage_eq_firstStage hsym hstage]
    exact firstStage_doneOrFails hi hr s

theorem finishRsInit_doneOrFails (s : State) : DoneOrFails .rsInit s (rsInit s).finishRsInit := by
  rcases rsInit_cases s with ⟨e, hr⟩ | ⟨-, -, hr⟩ <;> rw [hr]
  · exact .inr (.initFails e)
  · exact .inl rfl

/-- Every command is done or fails in one of the ways of `CommandFails`. -/
theorem exec_doneOrFails (i : Instr) (s : State) : ∃ t, exec i s = .next t ∧ DoneOrFails i s t :=
  match i with
  | .nop => ⟨_, rfl, .inl rfl⟩
  | .softReset => ⟨_, rfl, .inl rfl⟩
  | .rsInit => ⟨_, rfl, finishRsInit_doneOrFails s⟩
  | .rsEncode => ⟨_, rfl, finish_doneOrFails (by decide) rsEncode_raisesUnchanged s⟩
  | .rs929Encode => ⟨_, rfl, finish_doneOrFails (by decide) rs929Encode_raisesUnchanged s⟩
  | .dmOptimize => ⟨_, rfl, firstStage_doneOrFails (by decide) (dmOptimize_raisesUnchanged _) s⟩
  | .dmProduce => ⟨_, rfl, laterStage_doneOrFails (by decide) (dmProduce_raisesUnchanged _) s⟩
  | .dmEcc => ⟨_, rfl, laterStage_doneOrFails (by decide) (.of_ok (dmEcc_never_raises _)) s⟩
  | .dmLayout => ⟨_, rfl, laterStage_doneOrFails (by decide) (.of_ok (dmLayout_never_raises _)) s⟩
  | .dmEncode => ⟨_, rfl, firstStage_doneOrFails_withPlan (.inl rfl) (dmPipeline_raisesWithPlan _) s⟩
  | .pdfOptimize => ⟨_, rfl, firstStage_doneOrFails (by decide) (pdfOptimize_raisesUnchanged _) s⟩
  | .pdfProduce => ⟨_, rfl, laterStage_doneOrFails (by decide) (pdfProduce_raisesUnchanged _) s⟩
  | .pdfEcc => ⟨_, rfl, laterStage_doneOrFails (by decide) (.of_ok pdfEcc_never_raises) s⟩
  | .pdfLayout => ⟨_, rfl, laterStage_doneOrFails (by decide) (.of_ok pdfLayout_never_raises) s⟩
  | .pdfEncode => ⟨_, rfl, firstStage_doneOrFails_withPlan (.inr rfl) (pdfPipeline_raisesWithPlan _) s⟩
  | .maxiProduce => ⟨_, rfl, firstStage_doneOrFails (by decide) maxiProduce_raisesUnchanged s⟩
  | .maxiEcc => ⟨_, rfl, laterStage_doneOrFails (by decide) (.of_ok maxiEcc_never_raises) s⟩
  | .maxiLayout => ⟨_, rfl, laterStage_doneOrFails (by decide) (.of_ok maxiLayout_never_raises) s⟩
  | .maxiEncode => ⟨_, rfl, firstStage_doneOrFails (by decide) maxiPipeline_raisesUnchanged s⟩
  | .qrProduce => ⟨_, rfl, firstStage_doneOrFails (by decide) (qrProduce_raisesUnchanged _) s⟩
  | .qrEcc => ⟨_, rfl, laterStage_doneOrFails (by decide) (.of_ok (qrEcc_never_raises _)) s⟩
  | .qrLayout => ⟨_, rfl, laterStage_doneOrFails (by decide) (.of_ok (qrLayout_never_raises _)) s⟩
  | .qrMask => ⟨_, rfl, laterStage_doneOrFails (by decide) (.of_ok qrMask_never_raises) s⟩
  | .qrEncode => ⟨_, rfl, firstStage_doneOrFails (by decide) (qrPipeline_raisesUnchanged _) s⟩

theorem commandFails_of_exec (hexec : exec i s = .next t) (notDone : t.done = false) : CommandFails s i t := by
  obtain ⟨u, hu, ends⟩ := exec_doneOrFails i s
  obtain rfl : u = t := Host.Outcome.next.inj (hu.symm.trans hexec)
  exact ends.resolve_left (Bool.eq_false_iff.1 notDone)

end

/-- The numbers of the error codes (60_exceptions R701). -/
theorem ErrCode.number_range (code : ErrCode) : 1 ≤ code.number ∧ code.number ≤ 8 := by
  cases code <;> decide

/-- What a command stores of a plan the error outcome does not speak of (60_exceptions R715). -/
theorem errorOutcome_raise_withPlan (s : State) (plan : PlanBuffer) (res : ResultRegs) (e : CmdError) :
    ErrorOutcome s (State.raise { s with plan := plan, res := res } e) e.code.number e.detail e.index := by
  constructor <;> simp

theorem keepsEngine_raise_withPlan (s : State) (plan : PlanBuffer) (res : ResultRegs) (e : CmdError) :
    KeepsEngine s (State.raise { s with plan := plan, res := res } e) := by
  constructor <;> simp

/-- Settles O17: by the ways a command can fail. -/
theorem everyErrorIsTheErrorOutcome : Obligations.EveryErrorIsTheErrorOutcome := by
  intro i s t _ hexec notDone
  cases commandFails_of_exec hexec notDone with
  | initFails e =>
    obtain ⟨low, high⟩ := e.code.number_range
    exact ⟨⟨_, _, _, low, high, errorOutcome_raiseRsInit s e⟩, fun _ _ => rfl, fun hi => absurd rfl hi, fun _ => ⟨rfl, rfl⟩⟩
  | raises hi e =>
    obtain ⟨low, high⟩ := e.code.number_range
    exact ⟨⟨_, _, _, low, high, errorOutcome_raise s e⟩, fun _ _ => rfl, fun _ => keepsEngine_raise s e, fun h => absurd h hi⟩
  | raisesWithPlan hi plan res e =>
    obtain ⟨low, high⟩ := e.code.number_range
    refine ⟨⟨_, _, _, low, high, errorOutcome_raise_withPlan s plan res e⟩, fun dm pdf => absurd hi (not_or.2 ⟨dm, pdf⟩),
      fun _ => keepsEngine_raise_withPlan s plan res e, fun h => ?_⟩
    subst h
    exact absurd hi (by decide)

end Sys2Proof.Machine
end

section
/-! The interrupt line, the hard reset, the state after reset and the progress of a step (60_exceptions R730, 70_reset_and_hazards R750,
R762, R786, 30_encoding R192). -/

namespace Sys2Proof.Machine

/-- Settles O21: the line is the disjunction of the two enabled status bits. -/
theorem interruptLine : Obligations.InterruptLine := by
  intro s
  simp only [State.irq, Bool.or_eq_true, Bool.and_eq_true]

/-! ### Hard reset -/

section
variable {s : State} (h : s.rst = true)
include h

theorem busWrite_of_rst (a : Address) (be : ByteEnable) (d : Word) : s.busWrite a be d = s := if_pos h

theorem busRead_of_rst (a : Address) (be : ByteEnable) : s.busRead a be = s.drawnRead := if_pos h

theorem sequencerTurn_of_rst : sequencerTurn s = .next s := by
  rcases sequencerTurn_cases s with ⟨-, hs⟩ | ⟨-, -, hrst, -⟩
  · exact hs
  · exact absurd (h.symm.trans hrst) (by decide)

theorem State.driveRst_stays : s.driveRst true = s := by
  rw [State.driveRst, if_pos rfl, ← h]

end

/-- Settles O11: while `rst` is high every access and the sequencer take their first branch; the fall is `hardReset`, whose buffers are all
of the draw that `draws` counts before it. -/
theorem hardReset : Obligations.HardReset := by
  intro s hrst
  refine ⟨busWrite_of_rst hrst, fun a be => by rw [busRead_of_rst hrst]; rfl, sequencerTurn_of_rst hrst, State.driveRst_stays hrst, ?_⟩
  rw [State.driveRst_falls hrst]
  exact ⟨rfl, rfl, rfl, Nat.lt_succ_self _, Buffer.get_unspecified _, Buffer.get_unspecified _, Buffer.get_unspecified _,
    Buffer.get_unspecified _, Buffer.get_unspecified _, Buffer.get_unspecified _, Buffer.get_unspecified _⟩

/-! ### The state after reset -/

/-- The state after reset is a hard reset that took draw 0, so what holds after every hard reset holds of it (log 7). -/
theorem State.reset_eq_hardReset : State.reset = State.hardReset { State.reset with draws := 0 } := rfl

theorem secClean_reset_of_pending {events : List Event} (noReset : ∀ e ∈ events, ∀ level, e ≠ .rst level) :
    SecClean { State.reset with pending := events } :=
  ⟨rfl, rfl, rfl, ⟨0, rfl⟩, ⟨0, rfl⟩, ⟨0, rfl⟩, ⟨0, rfl⟩, ⟨0, rfl⟩, ⟨0, rfl⟩, ⟨0, rfl⟩, noReset⟩

/-- Settles O9: the invariants hold after every hard reset, and no statement of a program is a reset step. -/
theorem resetMeetsInvariants : Obligations.ResetMeetsInvariants :=
  ⟨State.reset_eq_hardReset ▸ State.hardReset_buffersWf _, State.reset_eq_hardReset ▸ State.hardReset_statusWf _,
    State.tablesBuilt_of_not_ready rfl, secClean_reset_of_pending nofun,
    fun _ => secClean_reset_of_pending fun _ he => programEvents_noReset he⟩

/-! ### Every step goes on -/

theorem exec_goesOn (i : Instr) (s : State) : ∃ t, exec i s = .next t := by
  obtain ⟨t, ht, -⟩ := exec_ends i s
  exact ⟨t, ht⟩

theorem sequencerTurn_goesOn (s : State) : ∃ t, sequencerTurn s = .next t := by
  rcases sequencerTurn_cases s with ⟨-, hs⟩ | ⟨w, -, -, hs⟩
  · exact ⟨_, hs⟩
  rw [hs]
  rcases runWord_cases w s with ⟨i, -, hw⟩ | ⟨-, hw⟩ | ⟨-, hw⟩ | ⟨-, -, -, hw⟩ <;> rw [hw]
  · exact exec_goesOn i s
  all_goals exact ⟨_, rfl⟩

theorem runEvent_goesOn (e : Event) (s : State) : ∃ t, runEvent e s = .next t :=
  match e with
  | .read _ _ | .write _ _ _ | .rst _ | .poll _ => ⟨_, rfl⟩
  | .sequencer => sequencerTurn_goesOn s

theorem step_goesOn (s : State) : ∃ t, step s = .next t := by
  rcases step_cases s with ⟨-, hs⟩ | ⟨e, rest, -, hs⟩ <;> rw [hs]
  · exact sequencerTurn_goesOn s
  · exact runEvent_goesOn e _

/-- One turn of the loop of `wait` with `rst` low keeps the word of `STATUS` and reads again while `BUSY = 1` (30_encoding R192). -/
theorem hostPoll_of_rst_low {s : State} (h : s.rst = false) (k : Nat) :
    s.hostPoll k =
      { s with
        responses := s.statusWord :: s.responses
        pending := if s.busy then pollAgain k ++ s.pending else s.pending } := by
  simp only [State.hostPoll, State.hostRead, busRead_status h, statusWord_busy]
  split <;> rfl

theorem step_of_poll_pending {s : State} {k : Nat} {rest : List Event} (h : s.pending = .poll k :: rest) :
    step s = .next (State.hostPoll { s with pending := rest } k) := by
  simp [step, h, runEvent]

theorem pollAgain_append (k : Nat) (rest : List Event) :
    pollAgain k ++ rest = if k = 0 then .sequencer :: .poll 0 :: rest else .poll (k - 1) :: rest := by
  cases k <;> rfl

/-- Settles O5: no event and no command ends otherwise than in a next state, and a turn of `wait` is `hostPoll`. -/
theorem stepAlwaysGoesOn : Obligations.StepAlwaysGoesOn := by
  refine ⟨step_goesOn, exec_goesOn, fun s k rest hrst hpending => ?_⟩
  rw [step_of_poll_pending hpending, hostPoll_of_rst_low (s := { s with pending := rest }) hrst]
  refine ⟨fun idle => ?_, fun running => ?_⟩
  · have notBusy : State.busy { s with pending := rest } = false := congrArg Option.isSome idle
    rw [notBusy]
    rfl
  · have busy : State.busy { s with pending := rest } = true := State.busy_of_latch running
    rw [busy, if_pos rfl, pollAgain_append]
    rfl

end Sys2Proof.Machine
end

section
/-! The configuration checks of the four symbologies in their order (60_exceptions R720 to R725): each check as a chain of conditions, and
that a first stage or a whole-pipeline command raises what its check answers. -/

namespace Sys2Proof.Machine

/-! ### Chains of checks -/

theorem configFail_eq_ite (cond : Bool) (detail : Nat) (next : Option CmdError) :
    configFail cond detail next = if cond = true then some (errorAt .config detail) else next := rfl

/-- Two checks in a row that raise the same error are one. -/
theorem configFail_configFail (a b : Bool) (detail : Nat) (next : Option CmdError) :
    configFail a detail (configFail b detail next) = configFail (a || b) detail next := by
  cases a <;> rfl

section
variable (s : State)

/-- The common checks (60_exceptions R720). -/
theorem checkConfig_eq (sym : PipeSym) :
    checkConfig sym s =
      if s.n = 0 then some (errorAt .config 1) else if 4096 < s.n then some (errorAt .config 2) else checkSym sym s := by
  simp only [checkConfig, configFail_eq_ite, beq_iff_eq, decide_eq_true_eq]
  rfl

theorem checkConfig_eq_checkSym {s : State} (h1 : 1 ≤ s.n) (h4096 : s.n ≤ 4096) (sym : PipeSym) : checkConfig sym s = checkSym sym s := by
  rw [checkConfig_eq, if_neg (by omega), if_neg (by omega)]

theorem checkQr_eq :
    checkQr s =
      if 3 < s.mode then some (errorAt .config 3)
      else if 40 < s.size then some (errorAt .config 4)
      else if 3 < s.ecl then some (errorAt .config 5)
      else none := by
  simp only [checkQr, configFail_eq_ite, decide_eq_true_eq]

theorem checkDm_eq :
    checkDm s =
      if 6 < s.mode then some (errorAt .config 3)
      else if 30 < s.size then some (errorAt .config 4)
      else if s.ecl ≠ 0 then some (errorAt .config 5)
      else if s.gs1 = true ∧ 1 < s.mode then some (errorAt .config 7)
      else none := by
  simp only [checkDm, configFail_eq_ite, decide_eq_true_eq, bne_iff_ne, Bool.and_eq_true]

theorem checkMaxi_eq :
    checkMaxi s =
      if s.mode ≠ 0 then some (errorAt .config 3)
      else if s.size < 2 ∨ 6 < s.size then some (errorAt .config 4)
      else if s.ecl ≠ 0 then some (errorAt .config 5)
      else if s.gs1 = true then some (errorAt .config 7)
      else none := by
  simp only [checkMaxi, configFail_eq_ite, decide_eq_true_eq, bne_iff_ne, Bool.or_eq_true]

/-- The levels that PDF417 and MicroPDF417 do not have (60_exceptions R722). -/
abbrev State.PdfBadEcl (s : State) : Prop :=
  (s.micro = false ∧ 8 < s.ecl ∧ s.ecl ≠ 15) ∨ (s.micro = true ∧ s.ecl ≠ 0 ∧ s.ecl ≠ 15)

/-- The geometries that PDF417 and MicroPDF417 do not have, whatever the table of variants (60_exceptions R722). -/
abbrev State.PdfBadGeom (s : State) : Prop :=
  (s.micro = true ∧ s.cfg.symCfg.trunc = true) ∨
    (s.micro = false ∧ (s.geomRows = 1 ∨ s.geomRows = 2 ∨ 90 < s.geomRows ∨ 30 < s.geomCols ∨
      (s.geomRows ≠ 0 ∧ s.geomCols ≠ 0 ∧ 928 < s.geomRows * s.geomCols))) ∨
    (s.micro = true ∧ 4 < s.geomCols)

/-- The requested rows of a MicroPDF417 symbol are those of no variant (60_exceptions R722). -/
abbrev State.PdfNoVariant (s : State) : Prop :=
  s.micro = true ∧ s.geomRows ≠ 0 ∧ microVariantExists s.geomRows s.geomCols = false

theorem pdfEclCheck_eq_true_iff :
    (!s.micro && !(s.ecl ≤ 8 || s.ecl == 15) || s.micro && !(s.ecl == 0 || s.ecl == 15)) = true ↔ s.PdfBadEcl := by
  simp only [Bool.or_eq_true, Bool.and_eq_true, Bool.not_eq_true', Bool.or_eq_false_iff, decide_eq_false_iff_not,
    beq_eq_false_iff_ne, Nat.not_le, State.PdfBadEcl]

theorem pdfGeomCheck_eq_true_iff :
    (s.micro && s.cfg.symCfg.trunc ||
      (!s.micro && ((1 ≤ s.geomRows && s.geomRows ≤ 2) || 90 < s.geomRows || 30 < s.geomCols ||
        (s.geomRows != 0 && s.geomCols != 0 && 928 < s.geomRows * s.geomCols)) ||
      s.micro && 4 < s.geomCols)) = true ↔ s.PdfBadGeom := by
  have fewRows : 1 ≤ s.geomRows ∧ s.geomRows ≤ 2 ↔ s.geomRows = 1 ∨ s.geomRows = 2 := by omega
  simp only [Bool.or_eq_true, Bool.and_eq_true, Bool.not_eq_true', decide_eq_true_eq, bne_iff_ne, State.PdfBadGeom, fewRows,
    or_assoc, and_assoc]

theorem pdfVariantCheck_eq_ite :
    (if s.micro = true then
      if s.geomRows = 0 then none else configFail (!microVariantExists s.geomRows s.geomCols) 0x0A none
    else none) = if s.PdfNoVariant then some (errorAt .config 0x0A) else none := by
  by_cases hmicro : s.micro = true
  · by_cases hrows : s.geomRows = 0
    · simp [hrows]
    · rw [if_pos hmicro, if_neg hrows, configFail_eq_ite]
      exact if_congr (by simp [State.PdfNoVariant, hmicro, hrows]) rfl rfl
  · simp [hmicro]

theorem checkPdf_eq :
    checkPdf s =
      if 3 < s.mode then some (errorAt .config 3)
      else if s.size ≠ 0 then some (errorAt .config 4)
      else if s.PdfBadEcl then some (errorAt .config 5)
      else if s.PdfBadGeom then some (errorAt .config 6)
      else if s.gs1 = true then some (errorAt .config 7)
      else if s.PdfNoVariant then some (errorAt .config 0x0A)
      else none := by
  simp only [checkPdf, configFail_configFail, pdfVariantCheck_eq_ite]
  simp only [configFail_eq_ite, pdfEclCheck_eq_true_iff, pdfGeomCheck_eq_true_iff, decide_eq_true_eq, bne_iff_ne]

/-- A variant is missing when no row of the table has the requested rows and, if given, columns (30_encoding R183). -/
theorem microVariantExists_eq_false_iff (rows cols : Nat) :
    microVariantExists rows cols = false ↔ ∀ v ∈ mpdfVariants, v.rows = rows → cols ≠ 0 ∧ v.cols ≠ cols := by
  simp only [microVariantExists, List.any_eq_false, Bool.and_eq_true, beq_iff_eq, Bool.or_eq_true, not_and, not_or, ne_eq]

theorem microVariantExists_of_mem {rows cols : Nat} (h : ∃ v ∈ mpdfVariants, v.rows = rows ∧ (cols = 0 ∨ v.cols = cols)) :
    microVariantExists rows cols = true := by
  simpa only [microVariantExists, List.any_eq_true, Bool.and_eq_true, beq_iff_eq, Bool.or_eq_true] using h

end

/-! ### The commands that check the configuration first -/

/-- The first stages and the whole-pipeline commands, with their symbology (40_control_pipeline R210, R234). -/
def firstStages : List (Instr × PipeSym) :=
  [(.dmOptimize, .dm), (.dmEncode, .dm), (.pdfOptimize, .pdf), (.pdfEncode, .pdf), (.maxiProduce, .maxi), (.maxiEncode, .maxi),
   (.qrProduce, .qr), (.qrEncode, .qr)]

section
variable {s : State} {i : Instr} {sym : PipeSym}

/-- Each of them is a `firstStage` of that symbology. -/
theorem exec_eq_firstStage (h : (i, sym) ∈ firstStages) : ∃ leaves rule, ∀ s, exec i s = .next (firstStage sym leaves rule s) := by
  cases i with
  | dmOptimize | dmEncode | pdfOptimize | pdfEncode | maxiProduce | maxiEncode | qrProduce | qrEncode =>
    obtain rfl : _ = sym := by simpa [firstStages, eq_comm] using h
    exact ⟨_, _, fun _ => rfl⟩
  | _ => simp [firstStages] at h

theorem firstStage_of_checkConfig {e : CmdError} (failed : checkConfig sym s = some e) (leaves : PipeStage) (rule : State → CmdResult) :
    firstStage sym leaves rule s = s.raise e := by
  simp [firstStage, withConfig, failed]

/-- A configuration error ends such a command before its rule runs (60_exceptions R711, R720). -/
theorem raisesError_of_checkConfig (h : (i, sym) ∈ firstStages) {detail : Nat} (failed : checkConfig sym s = some (errorAt .config detail)) :
    RaisesError i s 3 detail noIndex := by
  obtain ⟨leaves, rule, hexec⟩ := exec_eq_firstStage h
  exact raisesError_of_exec (e := errorAt .config detail) (by rw [hexec, firstStage_of_checkConfig failed])

theorem mem_firstStages_qr (hi : i ∈ [Instr.qrProduce, .qrEncode]) : (i, PipeSym.qr) ∈ firstStages := by
  simpa [firstStages] using hi

theorem mem_firstStages_dm (hi : i ∈ [Instr.dmOptimize, .dmEncode]) : (i, PipeSym.dm) ∈ firstStages := by
  simpa [firstStages] using hi

theorem mem_firstStages_maxi (hi : i ∈ [Instr.maxiProduce, .maxiEncode]) : (i, PipeSym.maxi) ∈ firstStages := by
  simpa [firstStages] using hi

theorem mem_firstStages_pdf (hi : i ∈ [Instr.pdfOptimize, .pdfEncode]) : (i, PipeSym.pdf) ∈ firstStages := by
  simpa [firstStages] using hi

theorem exists_mem_firstStages
    (hi : i ∈ [Instr.dmOptimize, .dmEncode, .pdfOptimize, .pdfEncode, .maxiProduce, .maxiEncode, .qrProduce, .qrEncode]) :
    ∃ sym, (i, sym) ∈ firstStages := by
  have commands : firstStages.map Prod.fst =
    [.dmOptimize, .dmEncode, .pdfOptimize, .pdfEncode, .maxiProduce, .maxiEncode, .qrProduce, .qrEncode] := rfl
  rw [← commands, List.mem_map] at hi
  obtain ⟨⟨_, sym⟩, hmem, rfl⟩ := hi
  exact ⟨sym, hmem⟩

end

/-- Settles O19: the check of each symbology is a chain of conditions, and the premises of a clause choose its link. -/
theorem configChecks : Obligations.ConfigChecks := by
  intro s
  refine ⟨fun i hi => ?common, fun h1 h4096 => ?_⟩
  case common =>
    obtain ⟨sym, hsym⟩ := exists_mem_firstStages hi
    exact ⟨fun h => raisesError_of_checkConfig hsym (by rw [checkConfig_eq, if_pos h]),
      fun h => raisesError_of_checkConfig hsym (by rw [checkConfig_eq, if_neg (by omega), if_pos h])⟩
  have qr : checkConfig .qr s = checkQr s := checkConfig_eq_checkSym h1 h4096 .qr
  have dm : checkConfig .dm s = checkDm s := checkConfig_eq_checkSym h1 h4096 .dm
  rw [checkQr_eq] at qr
  rw [checkDm_eq] at dm
  refine ⟨fun i hi => ?qr, fun mode size ecl => ?qrLegal, fun i hi => ?dm, fun mode size ecl gs1 => ?dmLegal⟩
  case qr =>
    have raises := fun {detail} => raisesError_of_checkConfig (s := s) (detail := detail) (mem_firstStages_qr hi)
    refine ⟨fun mode => raises ?_, fun mode size => raises ?_, fun mode size ecl => raises ?_⟩
    · rw [qr, if_pos mode]
    · rw [qr, if_neg (by omega), if_pos size]
    · rw [qr, if_neg (by omega), if_neg (by omega), if_pos ecl]
  case qrLegal => rw [qr, if_neg (by omega), if_neg (by omega), if_neg (by omega)]
  case dm =>
    have raises := fun {detail} => raisesError_of_checkConfig (s := s) (detail := detail) (mem_firstStages_dm hi)
    refine ⟨fun mode => raises ?_, fun mode size => raises ?_, fun mode size ecl => raises ?_,
      fun mode size ecl gs1 above => raises ?_⟩
    · rw [dm, if_pos mode]
    · rw [dm, if_neg (by omega), if_pos size]
    · rw [dm, if_neg (by omega), if_neg (by omega), if_pos ecl]
    · rw [dm, if_neg (by omega), if_neg (by omega), if_neg (by omega), if_pos ⟨gs1, above⟩]
  case dmLegal =>
    have noGs1 : ¬ (s.gs1 = true ∧ 1 < s.mode) := fun ⟨h, above⟩ => Nat.not_lt.2 above (gs1 h)
    rw [dm, if_neg (by omega), if_neg (by omega), if_neg (by omega), if_neg noGs1]

/-- Settles O20: as for O19; a PDF417 configuration fails its last check when no variant has the requested geometry. -/
theorem configChecksMaxiPdf : Obligations.ConfigChecksMaxiPdf := by
  intro s h1 h4096
  have maxi : checkConfig .maxi s = checkMaxi s := checkConfig_eq_checkSym h1 h4096 .maxi
  have pdf : checkConfig .pdf s = checkPdf s := checkConfig_eq_checkSym h1 h4096 .pdf
  rw [checkMaxi_eq] at maxi
  rw [checkPdf_eq] at pdf
  refine ⟨fun i hi => ?maxi, fun mode low high ecl gs1 => ?maxiLegal, fun i hi => ?pdf⟩
  case maxi =>
    have raises := fun {detail} => raisesError_of_checkConfig (s := s) (detail := detail) (mem_firstStages_maxi hi)
    refine ⟨fun mode => raises ?_, fun mode size => raises ?_, fun mode low high ecl => raises ?_,
      fun mode low high ecl gs1 => raises ?_⟩
    · rw [maxi, if_pos mode]
    · rw [maxi, if_neg (by omega), if_pos size]
    · rw [maxi, if_neg (by omega), if_neg (by omega), if_pos ecl]
    · rw [maxi, if_neg (by omega), if_neg (by omega), if_neg (by omega), if_pos gs1]
  case maxiLegal =>
    rw [maxi, if_neg (by omega), if_neg (by omega), if_neg (by omega), if_neg (Bool.eq_false_iff.1 gs1)]
  case pdf =>
    intro mic r c trunc badEcl badGeom
    have raises := fun {detail} => raisesError_of_checkConfig (s := s) (detail := detail) (mem_firstStages_pdf hi)
    refine ⟨fun mode => raises ?_, fun mode size => raises ?_, fun mode size ecl => raises ?_, fun mode size ecl geom => raises ?_,
      fun mode size ecl geom gs1 => raises ?_, fun mode size ecl geom gs1 micro rows none => raises ?_,
      fun mode size ecl geom gs1 variant => ?_⟩
    · rw [pdf, if_pos mode]
    · rw [pdf, if_neg (by omega), if_pos size]
    · rw [pdf, if_neg (by omega), if_neg (by omega), if_pos ecl]
    · rw [pdf, if_neg (by omega), if_neg (by omega), if_neg ecl, if_pos geom]
    · rw [pdf, if_neg (by omega), if_neg (by omega), if_neg ecl, if_neg geom, if_pos gs1]
    · rw [pdf, if_neg (by omega), if_neg (by omega), if_neg ecl, if_neg geom, if_neg (Bool.eq_false_iff.1 gs1),
        if_pos ⟨micro, rows, (microVariantExists_eq_false_iff r c).2 none⟩]
    · have found : ¬ s.PdfNoVariant := fun ⟨micro, rows, missing⟩ =>
        absurd (microVariantExists_of_mem (variant micro rows)) (Bool.eq_false_iff.1 missing)
      rw [pdf, if_neg (by omega), if_neg (by omega), if_neg ecl, if_neg geom, if_neg (Bool.eq_false_iff.1 gs1), if_neg found]

end Sys2Proof.Machine
end

section
/-! `PDF_LAYOUT` (48_pdf417_layout R560 to R568): the width of a row whatever the bar patterns are (log 10, 11), the start and stop patterns
of a PDF417 row, and the command. -/

namespace Sys2Proof.Machine

/-! ### Modules and patterns -/

@[simp] theorem length_funcModules (bits : List Nat) : (funcModules bits).length = bits.length := List.length_map _

@[simp] theorem length_dataModules (bits : List Nat) : (dataModules bits).length = bits.length := List.length_map _

theorem getD_funcModules {bits : List Nat} {c : Nat} (hc : c < bits.length) :
    (funcModules bits).getD c 0 = moduleBits (bits.getD c 0 == 1) true := by
  rw [List.getD_eq_getElem _ _ (by simpa using hc), List.getD_eq_getElem _ _ hc]
  exact List.getElem_map _

/-- Patterns of 17 modules each, one after another. -/
theorem length_flatten_patterns {patterns : List (List Nat)} (h : ∀ p ∈ patterns, p.length = 17) :
    patterns.flatten.length = 17 * patterns.length := by
  rw [List.length_flatten, List.sum_eq_card_nsmul _ 17 (List.forall_mem_map.2 h), List.length_map, smul_eq_mul, Nat.mul_comm]

/-! ### Rows -/

section
variable {cws : List Nat} {rows cols level r c : Nat} {truncated : Bool}

/-- The codewords of the symbol fill every row (48_pdf417_layout R564, R568). -/
theorem length_rowCodewords (hr : r < rows) (enough : rows * cols ≤ cws.length) : (rowCodewords cws cols r).length = cols := by
  have rowEnd : (r + 1) * cols ≤ rows * cols := Nat.mul_le_mul_right cols hr
  rw [Nat.add_one_mul] at rowEnd
  rw [rowCodewords, List.length_take, List.length_drop]
  omega

/-- What stands in a PDF417 row behind the codewords (48_pdf417_layout R564, R565). -/
def pdfRowEnd (truncated : Bool) (rows cols level r : Nat) : List Nat :=
  if truncated then pdfStopT else pdfPattern (r % 3) (pdfIndicators rows cols level r).2 ++ pdfStop

/-- What stands in a PDF417 row before that (48_pdf417_layout R564). -/
def pdfRowFront (rows cols level : Nat) (cws : List Nat) (r : Nat) : List (BitVec 2) :=
  funcModules (pdfStart ++ pdfPattern (r % 3) (pdfIndicators rows cols level r).1) ++
    dataModules ((rowCodewords cws cols r).flatMap (pdfPattern (r % 3)))

theorem pdfRow_eq (truncated : Bool) (rows cols level : Nat) (cws : List Nat) (r : Nat) :
    pdfRow truncated rows cols level cws r = pdfRowFront rows cols level cws r ++ funcModules (pdfRowEnd truncated rows cols level r) := rfl

theorem length_pdfRowEnd : (pdfRowEnd truncated rows cols level r).length = if truncated then 1 else 35 := by
  unfold pdfRowEnd
  split <;> simp [length_pdfPattern, pdfStop, pdfStopT]

theorem length_pdfRowFront (filled : (rowCodewords cws cols r).length = cols) :
    (pdfRowFront rows cols level cws r).length = 17 * (cols + 2) := by
  have codewords := length_flatten_patterns (patterns := (rowCodewords cws cols r).map (pdfPattern (r % 3)))
    (List.forall_mem_map.2 fun v _ => length_pdfPattern _ v)
  rw [List.length_map, filled] at codewords
  simp only [pdfRowFront, List.length_append, length_funcModules, length_dataModules, length_pdfPattern, List.flatMap_def, codewords,
    show pdfStart.length = 17 from rfl]
  omega

theorem length_pdfRow (filled : (rowCodewords cws cols r).length = cols) :
    (pdfRow truncated rows cols level cws r).length = if truncated then 17 * (cols + 2) + 1 else 17 * (cols + 4) + 1 := by
  rw [pdfRow_eq, List.length_append, length_pdfRowFront filled, length_funcModules, length_pdfRowEnd]
  split <;> omega

/-- A PDF417 row begins with `START` (48_pdf417_layout R564). -/
theorem getD_pdfRow_start (hc : c < 17) :
    (pdfRow truncated rows cols level cws r).getD c 0 = moduleBits (pdfStart.getD c 0 == 1) true := by
  have start : c < pdfStart.length := hc
  rw [pdfRow_eq, pdfRowFront, List.append_assoc, List.getD_append _ _ _ _ (by simp; omega), getD_funcModules (by simp; omega),
    List.getD_append _ _ _ _ start]

theorem getD_pdfRow_end (filled : (rowCodewords cws cols r).length = cols) (hc : c < if truncated then 1 else 35) :
    (pdfRow truncated rows cols level cws r).getD (17 * (cols + 2) + c) 0 =
      moduleBits ((pdfRowEnd truncated rows cols level r).getD c 0 == 1) true := by
  have front : (pdfRowFront rows cols level cws r).length = 17 * (cols + 2) := length_pdfRowFront filled
  rw [pdfRow_eq, List.getD_append_right _ _ _ _ (by omega), front, Nat.add_sub_cancel_left,
    getD_funcModules (length_pdfRowEnd.symm ▸ hc)]

/-- A PDF417 row ends with `STOP` (48_pdf417_layout R564). -/
theorem getD_pdfRow_stop (filled : (rowCodewords cws cols r).length = cols) (hc : c < 18) :
    (pdfRow false rows cols level cws r).getD (17 * (cols + 3) + c) 0 = moduleBits (pdfStop.getD c 0 == 1) true := by
  have place : 17 * (cols + 3) + c = 17 * (cols + 2) + (17 + c) := by omega
  rw [place, getD_pdfRow_end filled (by simp; omega), pdfRowEnd, if_neg (by decide),
    List.getD_append_right _ _ _ _ (by rw [length_pdfPattern]; omega), length_pdfPattern, Nat.add_sub_cancel_left]

/-- A truncated row ends with `STOP_T` (48_pdf417_layout R565). -/
theorem getD_pdfRow_stopT (filled : (rowCodewords cws cols r).length = cols) :
    (pdfRow true rows cols level cws r).getD (17 * (cols + 2)) 0 = moduleBits true true :=
  getD_pdfRow_end (c := 0) filled (by decide)

/-- A MicroPDF417 row has a row address pattern at each end and, with 3 or 4 columns, one between (48_pdf417_layout R568). -/
theorem length_microRow {v : MicroVariant} (filled : (rowCodewords cws v.cols r).length = v.cols) :
    (microRow v cws r).length = if v.cols ≤ 2 then 17 * v.cols + 21 else 17 * v.cols + 31 := by
  have patterns : ∀ p ∈ (rowCodewords cws v.cols r).map (pdfPattern (mpdfRap v r).2.2.2), p.length = 17 :=
    List.forall_mem_map.2 fun w _ => length_pdfPattern _ w
  have all := length_flatten_patterns patterns
  have before := length_flatten_patterns fun p hp => patterns p (List.mem_of_mem_take (i := v.cols - 2) hp)
  have behind := length_flatten_patterns fun p hp => patterns p (List.mem_of_mem_drop (i := v.cols - 2) hp)
  rw [List.length_map, filled] at all
  rw [List.length_take, List.length_map, filled] at before
  rw [List.length_drop, List.length_map, filled] at behind
  unfold microRow
  by_cases few : v.cols ≤ 2
  · simp only [if_pos few, List.length_append, length_funcModules, length_dataModules, length_bitsMsb, all,
      show pdfStopT.length = 1 from rfl]
    omega
  · simp only [if_neg few, List.length_append, length_funcModules, length_dataModules, length_bitsMsb, before, behind,
      show pdfStopT.length = 1 from rfl]
    omega

end

/-! ### The symbol -/

section
variable {s : State} {r : Nat}

theorem State.getD_pdfRows (hr : r < s.selLow) :
    s.pdfRows.getD r [] =
      if s.micro then microRow s.microVariant (s.cw.nats 0 s.res.cwTotal.toNat) r
      else pdfRow s.cfg.symCfg.trunc s.selLow s.selHigh s.res.selEcl.toNat (s.cw.nats 0 s.res.cwTotal.toNat) r := by
  simp [State.pdfRows, List.getD, hr]

theorem State.getD_pdfRows_of_full (full : s.micro = false) (hr : r < s.selLow) :
    s.pdfRows.getD r [] =
      pdfRow s.cfg.symCfg.trunc s.selLow s.selHigh s.res.selEcl.toNat (s.cw.nats 0 s.res.cwTotal.toNat) r := by
  rw [State.getD_pdfRows hr, if_neg (Bool.eq_false_iff.1 full)]

theorem State.length_rowCodewords (enough : s.selLow * s.selHigh ≤ s.res.cwTotal.toNat) (hr : r < s.selLow) :
    (rowCodewords (s.cw.nats 0 s.res.cwTotal.toNat) s.selHigh r).length = s.selHigh :=
  Machine.length_rowCodewords hr (by rwa [Buffer.nats_length])

/-- Every row has the width of its kind (48_pdf417_layout R564, R565, R568). -/
theorem State.length_pdfRows (enough : s.selLow * s.selHigh ≤ s.res.cwTotal.toNat) (hr : r < s.selLow) :
    (s.pdfRows.getD r []).length = s.pdfWidth := by
  have filled := State.length_rowCodewords enough hr
  rw [State.getD_pdfRows hr, State.pdfWidth]
  split
  · exact length_microRow (v := s.microVariant) filled
  · exact length_pdfRow filled

theorem State.pdfWidth_le (hcols : s.selHigh ≤ 30) : s.pdfWidth ≤ 579 := by
  simp only [State.pdfWidth]
  split_ifs <;> omega

theorem State.selLow_lt (s : State) : s.selLow < 256 := Nat.mod_lt _ (by decide)

/-- The matrix of the symbol, 0 outside its extent (40_control_pipeline R214). -/
theorem get_matOfRows_pdfRows (enough : s.selLow * s.selHigh ≤ s.res.cwTotal.toNat) {c : Nat} (hr : r < 256) (hc : c < 1024) :
    (matOfRows s.pdfRows).get (matIndex r c) =
      if r < s.selLow ∧ c < s.pdfWidth then (s.pdfRows.getD r []).getD c 0 else 0 := by
  rw [get_matOfRows _ r c hc hr]
  split_ifs with inside
  · rfl
  by_cases row : r < s.selLow
  · have width := State.length_pdfRows enough row
    exact List.getD_eq_default _ _ (by omega)
  · rw [List.getD_eq_default s.pdfRows _ (by simp [State.pdfRows]; omega)]
    rfl

end

/-- Settles O48: the codewords fill the rows, so each has the width of its kind; the start and stop patterns stand at its ends. -/
theorem pdfLayoutResult : Obligations.PdfLayoutResult := by
  intro s hsym hstage config rows cols width _ hcols _ enough
  have width_le : s.pdfWidth ≤ 579 := State.pdfWidth_le hcols
  have rows_lt : rows < 256 := s.selLow_lt
  have module {r c : Nat} (hr : r < rows) (hc : c < s.pdfWidth) :
      (matOfRows s.pdfRows).get (matIndex r c) = (s.pdfRows.getD r []).getD c 0 := by
    rw [get_matOfRows_pdfRows enough (by omega) (by omega), if_pos ⟨hr, hc⟩]
  refine ⟨_, congrArg Host.Outcome.next (laterStage_ok_of_same_sym hsym hstage config rfl rfl),
    toNat_of_eq_ofNat rfl (by change s.pdfWidth < _; omega), toNat_of_eq_ofNat rfl (by omega), fun r hr => State.length_pdfRows enough hr,
    fun r c hr hc => get_matOfRows_pdfRows enough hr hc, fun full r hr => ?_, rfl⟩
  have filled := State.length_rowCodewords enough hr
  have notMicro : ¬ s.micro = true := Bool.eq_false_iff.1 full
  have row := State.getD_pdfRows_of_full full hr
  refine ⟨fun c hc => ?start, fun whole c hc => ?stop, fun truncated => ?stopT⟩
  case start =>
    have inside : c < s.pdfWidth := by
      simp only [State.pdfWidth, if_neg notMicro]
      split_ifs <;> omega
    rw [← getD_pdfRow_start hc, ← row]
    exact module hr inside
  case stop =>
    have hwidth : s.pdfWidth = 17 * (cols + 4) + 1 := by simp only [State.pdfWidth, if_neg notMicro, whole]; rfl
    have place : width - 18 + c = 17 * (cols + 3) + c := by
      change s.pdfWidth - 18 + c = _
      omega
    rw [place, ← getD_pdfRow_stop filled hc, ← whole, ← row]
    exact module hr (by omega)
  case stopT =>
    have hwidth : s.pdfWidth = 17 * (cols + 2) + 1 := by simp only [State.pdfWidth, if_neg notMicro, truncated]; rfl
    have place : width - 1 = 17 * (cols + 2) := by
      change s.pdfWidth - 1 = _
      omega
    rw [place, ← getD_pdfRow_stopT filled, ← truncated, ← row]
    exact module hr (by omega)

end Sys2Proof.Machine
end

section
/-! The frame and the zigzag of a QR symbol (49_qr_layout_mask R600 to R607, R620): where the frame has a module, which columns the zigzag
passes, and that it passes each of their modules once. -/

namespace Sys2Proof.Machine

/-! ### Modules of the frame -/

section
variable {w i j : Nat}

theorem finderModule_eq_none_iff (a b : Nat) : finderModule a b = none ↔ 8 < a ∨ 8 < b := by
  unfold finderModule
  split_ifs with outside <;> simp [outside]

/-- The modules that no finder pattern and no separator takes (49_qr_layout_mask R601, R602). -/
theorem qrFinder_eq_none_iff :
    qrFinder w i j = none ↔
      (8 ≤ i ∨ 8 ≤ j) ∧ (w - 8 ≤ j → 8 ≤ i ∨ 8 < j - (w - 8)) ∧ (w - 8 ≤ i → 8 < i - (w - 8) ∨ 8 ≤ j) := by
  simp only [qrFinder, Option.or_eq_none_iff, ite_eq_right_iff, finderModule_eq_none_iff,
    Order.lt_add_one_iff]

theorem qrTiming_eq_none_iff :
    qrTiming w i j = none ↔ ¬ (i = 6 ∧ 8 ≤ j ∧ j ≤ w - 9) ∧ ¬ (j = 6 ∧ 8 ≤ i ∧ i ≤ w - 9) := by
  unfold qrTiming
  by_cases row : i = 6 ∧ 8 ≤ j ∧ j ≤ w - 9
  · simp [row]
  · by_cases column : j = 6 ∧ 8 ≤ i ∧ i ≤ w - 9 <;> simp [row, column]

end

theorem twentyOne_le_qrWidth {v : Nat} (hv : 1 ≤ v) : 21 ≤ qrWidth v := by
  unfold qrWidth
  omega

section
variable {T : Tables} {v i j : Nat}

/-- A module outside the frame is outside its finder and timing patterns (49_qr_layout_mask R607). -/
theorem qrFinder_qrTiming_of_qrFrame_none (h : qrFrame T v i j = none) :
    qrFinder (qrWidth v) i j = none ∧ qrTiming (qrWidth v) i j = none := by
  simp only [qrFrame, Option.or_eq_none_iff] at h
  exact ⟨h.1, h.2.1⟩

/-- The timing column and the two finder patterns it joins fill column 6 (49_qr_layout_mask R601, R604). -/
theorem ne_six_of_qrFrame_none (hv : 1 ≤ v) (hi : i < qrWidth v) (h : qrFrame T v i j = none) : j ≠ 6 := by
  obtain ⟨finder, timing⟩ := qrFinder_qrTiming_of_qrFrame_none h
  have width := twentyOne_le_qrWidth hv
  rw [qrFinder_eq_none_iff] at finder
  rw [qrTiming_eq_none_iff] at timing
  rintro rfl
  omega

/-- The format area is light after the frame is built (49_qr_layout_mask R606). -/
theorem qrFrame_of_inFormatArea (hv : 1 ≤ v) (h : inFormatArea (qrWidth v) i j = true) : qrFrame T v i j = some false := by
  have width := twentyOne_le_qrWidth hv
  have place := h
  simp only [inFormatArea, Bool.or_eq_true, Bool.and_eq_true, beq_iff_eq, decide_eq_true_eq, bne_iff_ne] at place
  have finder : qrFinder (qrWidth v) i j = none := qrFinder_eq_none_iff.2 (by omega)
  have timing : qrTiming (qrWidth v) i j = none := qrTiming_eq_none_iff.2 (by omega)
  have notDark : ¬ (i = qrWidth v - 8 ∧ j = 8) := by omega
  simp [qrFrame, finder, timing, notDark, h]

/-- The dark module (49_qr_layout_mask R605). -/
theorem qrFrame_dark (hv : 1 ≤ v) : qrFrame T v (qrWidth v - 8) 8 = some true := by
  have width := twentyOne_le_qrWidth hv
  have finder : qrFinder (qrWidth v) (qrWidth v - 8) 8 = none := qrFinder_eq_none_iff.2 (by omega)
  have timing : qrTiming (qrWidth v) (qrWidth v - 8) 8 = none := qrTiming_eq_none_iff.2 (by omega)
  simp [qrFrame, finder, timing]

end

/-! ### The columns of the zigzag -/

section
variable {w right i j : Nat}

theorem mem_zigzagPair : (i, j) ∈ zigzagPair w right ↔ i < w ∧ (j = right ∨ j = right - 1) := by
  simp only [zigzagPair, List.mem_flatMap, List.mem_range, List.mem_cons, List.not_mem_nil, or_false, Prod.mk.injEq]
  constructor
  · rintro ⟨t, ht, h⟩
    split_ifs at h <;> omega
  · rintro ⟨hi, hj⟩
    by_cases up : (right + 1) / 2 % 2 = 0
    · have row : i = w - 1 - (w - 1 - i) := by omega
      exact ⟨w - 1 - i, by omega, by simpa only [if_pos up, ← row, true_and] using hj⟩
    · exact ⟨i, hi, by simpa only [if_neg up, true_and] using hj⟩

/-- A column pair has no module twice: its rows are distinct, and so are its two columns. -/
theorem nodup_zigzagPair (hright : 1 ≤ right) : (zigzagPair w right).Nodup := by
  rw [zigzagPair, List.nodup_flatMap]
  refine ⟨fun t _ => by simp; omega, List.Pairwise.imp_of_mem ?_ List.pairwise_lt_range⟩
  intro t u ht hu htu
  rw [List.mem_range] at ht hu
  rw [Function.onFun, List.disjoint_left]
  rintro ⟨i, j⟩ hp hq
  simp only [List.mem_cons, List.not_mem_nil, or_false, Prod.mk.injEq] at hp hq
  split_ifs at hp hq <;> omega

/-- The right columns of the pairs: every other column from `W − 1` down, one further left below the timing column
(49_qr_layout_mask R620). -/
theorem mem_zigzagRights (odd : w % 2 = 1) :
    right ∈ zigzagRights w ↔ right < w ∧ ((right % 2 = 0 ∧ 8 ≤ right) ∨ (right % 2 = 1 ∧ right ≤ 5)) := by
  simp only [zigzagRights, List.map_map, List.mem_map, List.mem_range, Function.comp]
  constructor
  · rintro ⟨k, hk, rfl⟩
    split_ifs <;> omega
  · rintro ⟨hright, ⟨even, high⟩ | ⟨odd', low⟩⟩
    · exact ⟨(w - 1 - right) / 2, by omega, by split_ifs <;> omega⟩
    · exact ⟨(w - 2 - right) / 2, by omega, by split_ifs <;> omega⟩

/-- Two pairs do not share a column. -/
theorem pairwise_zigzagRights (odd : w % 2 = 1) : (zigzagRights w).Pairwise fun a b => b + 1 < a := by
  rw [zigzagRights, List.pairwise_map, List.pairwise_map]
  refine List.Pairwise.imp_of_mem ?_ List.pairwise_lt_range
  intro k l hk hl hkl
  rw [List.mem_range] at hk hl
  split_ifs <;> omega

/-- The pairs take every column but the timing column (49_qr_layout_mask R620). -/
theorem mem_zigzag (odd : w % 2 = 1) (hw : 9 ≤ w) :
    (i, j) ∈ (zigzagRights w).flatMap (zigzagPair w) ↔ i < w ∧ j < w ∧ j ≠ 6 := by
  simp only [List.mem_flatMap, mem_zigzagPair, mem_zigzagRights odd]
  constructor
  · rintro ⟨right, _, hi, _⟩
    omega
  · rintro ⟨hi, hj, hsix⟩
    by_cases isRight : (j % 2 = 0 ∧ 8 ≤ j) ∨ (j % 2 = 1 ∧ j ≤ 5)
    · exact ⟨j, ⟨hj, isRight⟩, hi, .inl rfl⟩
    · exact ⟨j + 1, by omega, hi, .inr rfl⟩

theorem nodup_zigzag (odd : w % 2 = 1) : ((zigzagRights w).flatMap (zigzagPair w)).Nodup := by
  rw [List.nodup_flatMap]
  refine ⟨fun right hright => nodup_zigzagPair ?_, (pairwise_zigzagRights odd).imp fun {a b} hab => ?_⟩
  · have := (mem_zigzagRights odd).1 hright
    omega
  · rw [Function.onFun, List.disjoint_left]
    rintro ⟨i, j⟩ ha hb
    rw [mem_zigzagPair] at ha hb
    omega

end

/-! ### The data modules -/

theorem qrWidth_odd (v : Nat) : qrWidth v % 2 = 1 := by
  unfold qrWidth
  omega

theorem nodup_qrDataModules (T : Tables) (v : Nat) : (qrDataModules T v).Nodup :=
  (nodup_zigzag (qrWidth_odd v)).filter _

/-- The data modules are the modules of the symbol outside the frame (49_qr_layout_mask R607, R620). -/
theorem mem_qrDataModules (T : Tables) {v i j : Nat} (hv : 1 ≤ v) :
    (i, j) ∈ qrDataModules T v ↔ i < qrWidth v ∧ j < qrWidth v ∧ qrFrame T v i j = none := by
  simp only [qrDataModules, List.mem_filter, mem_zigzag (qrWidth_odd v) ((by decide : 9 ≤ 21).trans (twentyOne_le_qrWidth hv)),
    Option.isNone_iff_eq_none]
  constructor
  · rintro ⟨⟨hi, hj, -⟩, data⟩
    exact ⟨hi, hj, data⟩
  · rintro ⟨hi, hj, data⟩
    exact ⟨⟨hi, hj, ne_six_of_qrFrame_none hv hi data⟩, data⟩

/-- Settles O57: the zigzag passes every module but those of column 6, each once, and column 6 is in the frame. -/
theorem qrZigzagOnce : Obligations.QrZigzagOnce :=
  fun _ hv _ => ⟨nodup_qrDataModules .given _, fun _ _ => mem_qrDataModules .given hv⟩

end Sys2Proof.Machine
end
section
/-! `QR_LAYOUT` (49_qr_layout_mask R600, R607, R620): the cells of a grid one by one, what placing the bits leaves of a grid, and the
command. -/

namespace Sys2Proof.Machine

/-! ### Cells of a grid -/

section
variable {α : Type} {g : Grid α} {r c i j : Nat} {d : α}

/-- The grid has a cell at this row and column. -/
def Grid.Inside (g : Grid α) (r c : Nat) : Prop := r < g.length ∧ c < (g.getD r []).length

theorem Grid.getD_set_row (g : Grid α) (r c : Nat) (v : α) (i : Nat) :
    (g.set r c v).getD i [] = if r = i then List.set (g.getD i []) c v else g.getD i [] := by
  rw [Grid.set, List.getD_eq_getElem?_getD, List.getElem?_modify, List.getD_eq_getElem?_getD]
  cases g[i]? <;> split_ifs <;> rfl

@[simp] theorem Grid.inside_set (r c : Nat) (v : α) : (g.set r c v).Inside i j ↔ g.Inside i j := by
  have rows : (g.set r c v).length = g.length := List.length_modify _ _ _
  have row : ((g.set r c v).getD i []).length = (g.getD i []).length := by
    rw [Grid.getD_set_row]
    split_ifs
    · exact List.length_set
    · rfl
  rw [Grid.Inside, Grid.Inside, rows, row]

theorem Grid.get_set_self (inside : g.Inside r c) (v : α) : (g.set r c v).get r c d = v := by
  rw [Grid.get, Grid.getD_set_row, if_pos rfl, List.getD_eq_getElem _ _ (by simpa using inside.2)]
  exact List.getElem_set_self _

theorem Grid.get_set_of_ne {p : Nat × Nat} (ne : p ≠ (r, c)) (v : α) : (g.set r c v).get p.1 p.2 d = g.get p.1 p.2 d := by
  rw [Grid.get, Grid.getD_set_row, Grid.get]
  split_ifs with row
  · have column : c ≠ p.2 := fun column => ne (Prod.ext row.symm column.symm)
    simp only [List.getD_eq_getElem?_getD, List.getElem?_set_ne column]
  · rfl

theorem Grid.inside_ofFn {rows cols : Nat} {f : Nat → Nat → α} (hr : r < rows) (hc : c < cols) : (Grid.ofFn rows cols f).Inside r c := by
  simp [Grid.Inside, Grid.ofFn, List.getD, hr, hc]

end

/-! ### Placing the bits -/

section
variable {ps : List (Nat × Nat)} {bits : List Nat} {g : Grid (BitVec 2)} {i j k : Nat}

/-- Placing bits changes no module but those it places them on. -/
theorem get_placeBits_of_not_mem (away : (i, j) ∉ ps) (bits : List Nat) (g : Grid (BitVec 2)) :
    (placeBits ps bits g).get i j 0 = g.get i j 0 := by
  induction ps generalizing bits g with
  | nil => rfl
  | cons p ps ih =>
    cases bits with
    | nil => rfl
    | cons b bits =>
      obtain ⟨ne, rest⟩ := List.ne_and_not_mem_of_not_mem_cons away
      exact (ih rest bits _).trans (Grid.get_set_of_ne (p := (i, j)) ne _)

/-- The module in place `k` takes bit `k`; one past the last bit stays as it was (49_qr_layout_mask R620). -/
theorem get_placeBits (distinct : ps.Nodup) (inside : ∀ p ∈ ps, g.Inside p.1 p.2) (hk : k < ps.length) :
    (placeBits ps bits g).get (ps.getD k (0, 0)).1 (ps.getD k (0, 0)).2 0 =
      if k < bits.length then moduleBits (bits.getD k 0 == 1) false
      else g.get (ps.getD k (0, 0)).1 (ps.getD k (0, 0)).2 0 := by
  induction ps generalizing bits g k with
  | nil => exact absurd hk (Nat.not_lt_zero k)
  | cons p ps ih =>
    obtain ⟨away, distinct⟩ := List.nodup_cons.1 distinct
    obtain ⟨first, inside⟩ := List.forall_mem_cons.1 inside
    cases bits with
    | nil => exact (if_neg (Nat.not_lt_zero k)).symm
    | cons b bits =>
      cases k with
      | zero => exact (get_placeBits_of_not_mem away bits _).trans (Grid.get_set_self first _)
      | succ k =>
        have hk : k < ps.length := Nat.lt_of_succ_lt_succ hk
        have later : ps.getD k (0, 0) ≠ p := by
          rw [List.getD_eq_getElem _ _ hk]
          exact fun h => away (h ▸ List.getElem_mem hk)
        have rest := ih (bits := bits) (g := g.set p.1 p.2 (moduleBits (b == 1) false)) distinct
          (fun q hq => (Grid.inside_set _ _ _).2 (inside q hq)) hk
        rw [Grid.get_set_of_ne later] at rest
        simpa only [placeBits, List.getD_cons_succ, List.length_cons, Nat.add_lt_add_iff_right] using rest

end

/-! ### The symbol -/

section
variable {T : Tables} {v i j k : Nat}

theorem get_qrFrameGrid (hi : i < qrWidth v) (hj : j < qrWidth v) :
    (qrFrameGrid T v).get i j 0 = ((qrFrame T v i j).map fun dark => moduleBits dark true).getD (moduleBits false false) := by
  refine (Grid.getD_ofFn _ _ _ _ _ _ hi hj).trans ?_
  cases qrFrame T v i j <;> rfl

variable (hv : 1 ≤ v) (cws : List Nat)
include hv

/-- A module of the frame keeps its colour (49_qr_layout_mask R600). -/
theorem get_qrSymbol_frame {dark : Bool} (hi : i < qrWidth v) (hj : j < qrWidth v) (frame : qrFrame T v i j = some dark) :
    (qrSymbol T v cws).get i j 0 = moduleBits dark true := by
  have away : (i, j) ∉ qrDataModules T v := fun h => by
    obtain ⟨-, -, data⟩ := (mem_qrDataModules T hv).1 h
    exact absurd (frame.symm.trans data) nofun
  rw [qrSymbol, get_placeBits_of_not_mem away, get_qrFrameGrid hi hj, frame]
  rfl

/-- A data module takes its bit of the codewords, 0 after the last (49_qr_layout_mask R620). -/
theorem get_qrSymbol_data (hk : k < (qrDataModules T v).length) :
    (qrSymbol T v cws).get ((qrDataModules T v).getD k (0, 0)).1 ((qrDataModules T v).getD k (0, 0)).2 0 =
      moduleBits ((cws.flatMap fun c => bitsMsb c 8).getD k 0 == 1) false := by
  have place : ∀ p ∈ qrDataModules T v, p.1 < qrWidth v ∧ p.2 < qrWidth v ∧ qrFrame T v p.1 p.2 = none :=
    fun p hp => (mem_qrDataModules T hv).1 hp
  have inside : ∀ p ∈ qrDataModules T v, (qrFrameGrid T v).Inside p.1 p.2 := fun p hp => by
    obtain ⟨hi, hj, -⟩ := place p hp
    exact Grid.inside_ofFn hi hj
  rw [qrSymbol, get_placeBits (nodup_qrDataModules T v) inside hk]
  split_ifs with placed
  · rfl
  · obtain ⟨hi, hj, data⟩ := place ((qrDataModules T v).getD k (0, 0)) (by
      rw [List.getD_eq_getElem _ _ hk]
      exact List.getElem_mem hk)
    rw [get_qrFrameGrid hi hj, data, List.getD_eq_default _ _ (Nat.not_lt.1 placed)]
    rfl

/-- There is nothing outside the symbol (40_control_pipeline R214). -/
theorem get_qrSymbol_outside (outside : qrWidth v ≤ i ∨ qrWidth v ≤ j) : (qrSymbol T v cws).get i j 0 = 0 := by
  have away : (i, j) ∉ qrDataModules T v := fun h => by
    obtain ⟨hi, hj, -⟩ := (mem_qrDataModules T hv).1 h
    omega
  rw [qrSymbol, get_placeBits_of_not_mem away]
  exact Grid.getD_ofFn_outside _ _ _ _ _ _ outside

end

/-- Settles O58: the frame and the data modules share no module, and the format area and the dark module are in the frame. -/
theorem qrLayoutResult : Obligations.QrLayoutResult := by
  intro s hsym hstage config v w bits hv h40
  have width : w ≤ 177 := by omega
  have module {r c : Nat} (hr : r < 256) (hc : c < 1024) :
      (matOfRows (qrSymbol .given v _)).get (matIndex r c) = Grid.get (qrSymbol .given v _) r c 0 :=
    get_matOfRows (qrSymbol .given v ((s.cw.nats 0 (qrBlocks .given v 0).total).map (· % 256))) r c hc hr
  have frame {i j : Nat} {dark : Bool} (hi : i < w) (hj : j < w) (h : qrFrame .given v i j = some dark) :
      (matOfRows (qrSymbol .given v _)).get (matIndex i j) = moduleBits dark true :=
    (module (by omega) (by omega)).trans (get_qrSymbol_frame hv _ hi hj h)
  refine ⟨_, congrArg Host.Outcome.next (laterStage_ok_of_same_sym hsym hstage config rfl rfl),
    toNat_of_eq_ofNat rfl (by omega), toNat_of_eq_ofNat rfl (by omega),
    fun i j dark hi hj h => frame hi hj h, fun k hk => ?data, fun i j hi hj h => frame hi hj (qrFrame_of_inFormatArea hv h),
    frame (by omega) (by omega) (qrFrame_dark hv), fun r c hr hc outside => ?outside, rfl⟩
  case data =>
    have mem : (qrDataModules .given v).getD k (0, 0) ∈ qrDataModules .given v := by
      rw [List.getD_eq_getElem _ _ hk]
      exact List.getElem_mem hk
    obtain ⟨hi, hj, -⟩ := (mem_qrDataModules .given hv).1 mem
    have hi : ((qrDataModules .given v).getD k (0, 0)).1 < w := hi
    have hj : ((qrDataModules .given v).getD k (0, 0)).2 < w := hj
    exact (module (by omega) (by omega)).trans (get_qrSymbol_data hv _ hk)
  case outside => exact (module hr hc).trans (get_qrSymbol_outside hv _ outside)

end Sys2Proof.Machine
end

section
/-! `QR_MASK` (49_qr_layout_mask R640 to R651): the penalty of a symbol fits its register, the chosen mask is the lowest of the least, and
the command. -/

namespace Sys2Proof.Machine

/-! ### The penalty of a line -/

theorem length_lineRuns_le (line : List Bool) : (lineRuns line).length ≤ line.length := by
  induction line with
  | nil => exact le_rfl
  | cons x rest ih =>
    rw [lineRuns, List.length_cons]
    cases h : lineRuns rest with
    | nil => simp
    | cons r more =>
      obtain ⟨y, n⟩ := r
      rw [h] at ih
      dsimp only
      split_ifs <;> simp only [List.length_cons] at ih ⊢ <;> omega

/-- The runs of a line have its modules. -/
theorem sum_lineRuns (line : List Bool) : ((lineRuns line).map Prod.snd).sum = line.length := by
  induction line with
  | nil => rfl
  | cons x rest ih =>
    rw [lineRuns, List.length_cons, ← ih]
    cases lineRuns rest with
    | nil => rfl
    | cons r more =>
      obtain ⟨y, n⟩ := r
      dsimp only
      split_ifs <;> simp only [List.map_cons, List.sum_cons] <;> omega

/-- N1 counts a run of five or more with at most its length (49_qr_layout_mask R642). -/
theorem n1Line_lineRuns_le (line : List Bool) : n1Line (lineRuns line) ≤ line.length := by
  rw [← sum_lineRuns line]
  refine List.sum_le_sum fun r _ => ?_
  split_ifs <;> omega

/-- N3 counts at most one sequence at each run (49_qr_layout_mask R644). -/
theorem n3Line_le (prev : Option (Bool × Nat)) (runs : List (Bool × Nat)) : n3Line prev runs ≤ 40 * runs.length := by
  induction runs generalizing prev with
  | nil => exact Nat.zero_le _
  | cons r rest ih =>
    rw [n3Line, List.length_cons, Nat.mul_succ, Nat.add_comm]
    refine Nat.add_le_add (ih (some r)) ?_
    split
    · split_ifs <;> omega
    · exact Nat.zero_le _

theorem n3Line_lineRuns_le (line : List Bool) : n3Line none (lineRuns line) ≤ 40 * line.length :=
  (n3Line_le none _).trans (Nat.mul_le_mul_left 40 (length_lineRuns_le line))

/-- N2 counts at most one square at each module of the upper row (49_qr_layout_mask R643). -/
theorem n2Rows_le (top low : List Bool) : n2Rows top low ≤ 3 * top.length := by
  induction top generalizing low with
  | nil => exact Nat.zero_le _
  | cons a top ih =>
    cases top with
    | nil => exact Nat.zero_le _
    | cons b top =>
      rcases low with - | ⟨c, - | ⟨d, low⟩⟩
      · exact Nat.zero_le _
      · exact Nat.zero_le _
      · rw [n2Rows, List.length_cons, Nat.mul_succ, Nat.add_comm]
        refine Nat.add_le_add (ih (d :: low)) ?_
        split_ifs <;> omega

/-! ### The penalty of a symbol -/

/-- A grid of `w` rows of `w` cells. -/
def SquareGrid {α : Type} (w : Nat) (g : List (List α)) : Prop := g.length = w ∧ ∀ row ∈ g, row.length = w

/-- Numbers that are each at most `b`. -/
theorem sum_map_le_mul {α : Type} {l : List α} {f : α → Nat} {n b : Nat} (length : l.length = n) (bound : ∀ x ∈ l, f x ≤ b) :
    (l.map f).sum ≤ n * b := by
  have sum := List.sum_le_card_nsmul (l.map f) b (List.forall_mem_map.2 bound)
  rwa [List.length_map, length, smul_eq_mul] at sum

section
variable {w : Nat} {g : Grid Bool}

theorem n2_le (rows : ∀ row ∈ g, row.length = w) : n2 g ≤ g.length * (3 * w) := by
  induction g with
  | nil => exact Nat.zero_le _
  | cons r1 rest ih =>
    cases rest with
    | nil => exact Nat.zero_le _
    | cons r2 rest =>
      obtain ⟨first, rows⟩ := List.forall_mem_cons.1 rows
      rw [n2, List.length_cons, Nat.add_one_mul, Nat.add_comm]
      exact Nat.add_le_add (ih rows) (first ▸ n2Rows_le r1 r2)

theorem distance_le (a b : Nat) : distance a b ≤ a + b := by
  unfold distance
  omega

theorem n4_le (square : SquareGrid w g) : n4 w g ≤ 1500 * w ^ 2 := by
  have dark : (g.map fun row => row.countP id).sum ≤ w * w :=
    sum_map_le_mul square.1 fun row hrow => List.countP_le_length.trans (square.2 row hrow).le
  have far := distance_le (100 * (g.map fun row => row.countP id).sum) (50 * w ^ 2)
  have quotient := Nat.div_le_self (distance (100 * (g.map fun row => row.countP id).sum) (50 * w ^ 2)) (5 * w ^ 2)
  rw [← Nat.pow_two] at dark
  unfold n4
  dsimp only
  omega

/-- The rows and columns of a symbol are `2w` lines of `w` modules. -/
theorem lines_of_square (square : SquareGrid w g) :
    (g ++ g.columns w false).length = 2 * w ∧ ∀ line ∈ g ++ g.columns w false, line.length = w := by
  obtain ⟨length, rows⟩ := square
  refine ⟨by simp [Grid.columns, length, Nat.two_mul], fun line hline => ?_⟩
  rcases List.mem_append.1 hline with hline | hline
  · exact rows line hline
  · obtain ⟨c, -, rfl⟩ := List.mem_map.1 hline
    exact (List.length_map _).trans length

/-- The penalty of a symbol is far below what its register holds (10_state R69). -/
theorem penalty_le (square : SquareGrid w g) : penalty w g ≤ 1585 * w ^ 2 := by
  obtain ⟨length, lines⟩ := lines_of_square square
  have first := sum_map_le_mul (f := fun line => n1Line (lineRuns line)) length fun line hline =>
    (n1Line_lineRuns_le line).trans (lines line hline).le
  have second := n2_le square.2
  have third := sum_map_le_mul (f := fun line => n3Line none (lineRuns line)) length fun line hline =>
    (n3Line_lineRuns_le line).trans (Nat.mul_le_mul_left 40 (lines line hline).le)
  have fourth := n4_le square
  rw [square.1] at second
  simp only [penalty, List.map_map]
  calc _ ≤ 2 * w * w + w * (3 * w) + 2 * w * (40 * w) + 1500 * w ^ 2 :=
        Nat.add_le_add (Nat.add_le_add (Nat.add_le_add first second) third) fourth
    _ = 1585 * w ^ 2 := by ring

end

/-! ### The lowest of the least -/

/-- The place `m` is the lowest of those below `n` where `f` is least. -/
def LowestLeast (f : Nat → Nat) (n m : Nat) : Prop := m < n ∧ (∀ k, k < n → f m ≤ f k) ∧ ∀ k, k < m → f m < f k

section
variable {f : Nat → Nat} {i best : Nat} {ps : List Nat}

theorem LowestLeast.keep (h : LowestLeast f i best) (notLess : ¬ f i < f best) : LowestLeast f (i + 1) best := by
  obtain ⟨lt, least, lowest⟩ := h
  refine ⟨by omega, fun k hk => ?_, lowest⟩
  rcases Nat.lt_succ_iff_lt_or_eq.1 hk with hk | rfl
  · exact least k hk
  · exact Nat.le_of_not_lt notLess

theorem LowestLeast.take (h : LowestLeast f i best) (less : f i < f best) : LowestLeast f (i + 1) i := by
  obtain ⟨-, least, -⟩ := h
  have below : ∀ k, k < i → f i < f k := fun k hk => less.trans_le (least k hk)
  refine ⟨Nat.lt_succ_self i, fun k hk => ?_, below⟩
  rcases Nat.lt_succ_iff_lt_or_eq.1 hk with hk | rfl
  · exact (below k hk).le
  · exact le_rfl

theorem lowestLeast_leastAt (h : LowestLeast f i best) (reads : ReadsFrom f i ps) :
    LowestLeast f (i + ps.length) (leastAt best (f best) ps i) := by
  induction ps generalizing i best with
  | nil => exact h
  | cons p ps ih =>
    obtain rfl : p = f i := reads.head
    rw [leastAt, List.length_cons, ← Nat.add_assoc, Nat.add_right_comm]
    split_ifs with less
    · exact ih (h.take less) reads.tail
    · exact ih (h.keep less) reads.tail

/-- The chosen mask is the lowest of the least (49_qr_layout_mask R640). -/
theorem lowestLeast_chooseMask (h : ps ≠ []) : LowestLeast (fun k => ps.getD k 0) ps.length (chooseMask ps) := by
  obtain ⟨p, ps, rfl⟩ := List.exists_cons_of_ne_nil h
  have start : LowestLeast (fun k => (p :: ps).getD k 0) 1 0 := by
    refine ⟨Nat.one_pos, fun k hk => ?_, fun k hk => absurd hk (Nat.not_lt_zero k)⟩
    rw [Nat.lt_one_iff.1 hk]
  have all := lowestLeast_leastAt start (ps := ps) fun k _ => by
    rw [Nat.add_comm]
    rfl
  rwa [Nat.add_comm] at all

end

theorem Penalties.get_ofList (ps : List Nat) (k : Fin 8) : (Penalties.ofList ps).get k = BitVec.ofNat 32 (ps.getD k.val 0) := by
  fin_cases k <;> rfl

/-! ### The masked symbol -/

section
variable {w lev m i j : Nat} {u : Grid (BitVec 2)}

theorem squareGrid_maskedSymbol (square : SquareGrid w u) : SquareGrid w (maskedSymbol w lev m u) := by
  obtain ⟨length, rows⟩ := square
  refine ⟨List.length_mapIdx.trans length, fun row hrow => ?_⟩
  obtain ⟨i, hi, rfl⟩ := List.mem_mapIdx.1 hrow
  exact List.length_mapIdx.trans (rows _ (List.getElem_mem hi))

/-- The dark modules of a candidate are a square too, so its penalty is bounded. -/
theorem maskPenalty_le (square : SquareGrid w u) : maskPenalty w lev m u ≤ 1585 * w ^ 2 := by
  obtain ⟨length, rows⟩ := squareGrid_maskedSymbol (lev := lev) (m := m) square
  exact penalty_le ⟨(List.length_map _).trans length, List.forall_mem_map.2 fun row hrow => (List.length_map _).trans (rows row hrow)⟩

theorem length_getD_of_square (square : SquareGrid w u) (hi : i < w) : (u.getD i []).length = w := by
  obtain ⟨length, rows⟩ := square
  rw [List.getD_eq_getElem _ _ (length ▸ hi)]
  exact rows _ (List.getElem_mem _)

theorem getD_maskedSymbol (square : SquareGrid w u) (hi : i < w) (hj : j < w) :
    ((maskedSymbol w lev m u).getD i []).getD j 0 = maskedModule w (qrFormatInfo lev m) m ((u.getD i []).getD j 0) i j := by
  have row : i < u.length := square.1.symm ▸ hi
  have column : j < u[i].length := square.2 _ (List.getElem_mem row) ▸ hj
  simp [maskedSymbol, List.getD_eq_getElem?_getD, row, column]

/-- What writing a candidate over a matrix leaves in it. -/
theorem get_writeMaskedSymbol (mat : MatBuffer) (square : SquareGrid w u) (hi : i < 256) (hj : j < 1024) :
    (writeRows mat 0 (maskedSymbol w lev m u)).get (matIndex i j) =
      if i < w ∧ j < w then maskedModule w (qrFormatInfo lev m) m ((u.getD i []).getD j 0) i j else mat.get (matIndex i j) := by
  have candidate := squareGrid_maskedSymbol (lev := lev) (m := m) square
  rw [get_writeRows _ _ _ _ _ hj hi, Nat.sub_zero, candidate.1]
  by_cases row : i < w
  · simp only [length_getD_of_square candidate row, row, Nat.zero_le, true_and]
    split_ifs with column
    · exact getD_maskedSymbol square row column
    · rfl
  · simp only [row, false_and, and_false, if_false]

theorem squareGrid_matRows (mat : MatBuffer) (w : Nat) : SquareGrid w (Machine.matRows mat w w) := by
  refine ⟨by simp [Machine.matRows], List.forall_mem_map.2 fun r _ => Buffer.range_length _ _ _⟩

end

/-- Settles O59: the candidates are squares of at most 177 modules a side, so every penalty fits its register; a module of the symbol is one of
the chosen candidate. -/
theorem qrMaskResult : Obligations.QrMaskResult := by
  intro s hsym hstage config v w lev hv h40
  have width : w ≤ 177 := by omega
  have square : SquareGrid w (Machine.matRows s.mat w w) := squareGrid_matRows s.mat w
  have length : s.maskPenalties.length = 8 := by simp [State.maskPenalties]
  have penalties {k : Nat} (hk : k < 8) : s.maskPenalties.getD k 0 = maskPenalty w lev k (Machine.matRows s.mat w w) := by
    rw [List.getD_eq_getElem _ _ (length ▸ hk)]
    exact (List.getElem_map _).trans (congrArg (fun k => maskPenalty w lev k (Machine.matRows s.mat w w)) (List.getElem_range _))
  have fits (k : Fin 8) : (BitVec.ofNat 32 (s.maskPenalties.getD k.val 0)).toNat = s.maskPenalties.getD k.val 0 := by
    refine toNat_of_eq_ofNat rfl ?_
    have bound := maskPenalty_le (lev := lev) (m := k) square
    have area : w ^ 2 ≤ 177 ^ 2 := Nat.pow_le_pow_left width 2
    rw [penalties k.isLt]
    omega
  have register (k : Fin 8) : ((Penalties.ofList s.maskPenalties).get k).toNat = s.maskPenalties.getD k.val 0 := by
    rw [Penalties.get_ofList, fits]
  obtain ⟨chosen, least, lowest⟩ := lowestLeast_chooseMask (List.ne_nil_of_length_pos (by omega : 0 < s.maskPenalties.length))
  rw [length] at chosen least
  refine ⟨_, ⟨chooseMask s.maskPenalties, chosen⟩,
    congrArg Host.Outcome.next (laterStage_ok_of_same_sym hsym hstage config rfl rfl), rfl,
    fun k => (register k).trans (penalties k.isLt), fun k => ?least, fun k hk => ?lowest, fun i j hi hj => ?inside,
    fun r c hr hc outside => ?outside, rfl⟩
  case least => exact (register _).trans_le ((least k k.isLt).trans (register k).ge)
  case lowest => exact (register _).trans_lt ((lowest k hk).trans_eq (register k).symm)
  case inside =>
    have u : ((Machine.matRows s.mat w w).getD i []).getD j 0 = s.mat.get (matIndex i j) := matRows_get s.mat w w i j hi hj
    refine (get_writeMaskedSymbol s.mat square (by omega) (by omega)).trans ?_
    rw [if_pos ⟨hi, hj⟩, u]
    rfl
  case outside => exact (get_writeMaskedSymbol s.mat square hr hc).trans (if_neg (by omega))

end Sys2Proof.Machine
end

section
/-! The Reed-Solomon round trip (41_rs_engine R242 to R252, 70_reset_and_hazards R787). A product with a power of `x` is so many shifts of
`BuildField`, and a shift adds up over the exclusive or; so a polynomial can be read at a power of `x` by shifts alone. The generator is 0 at
its roots, and the LFSR keeps its parity equal to the data there. -/

namespace Sys2Proof.Machine

/-! ### Products with a power of `x` -/

/-- The product of a symbol with `x^k`: `k` shifts (41_rs_engine R242). -/
def timesPower (m poly k v : Nat) : Nat := (nextShift m poly)^[k] v

section
variable {m poly : Nat}

/-- A shift adds up over the exclusive or, the sum of the field. -/
theorem nextShift_xor (m poly a b : Nat) : nextShift m poly (a ^^^ b) = nextShift m poly a ^^^ nextShift m poly b := by
  have double : 2 * (a ^^^ b) = 2 * a ^^^ 2 * b := by
    simpa only [Nat.shiftLeft_eq, pow_one, Nat.mul_comm _ 2] using Nat.shiftLeft_xor_distrib (i := 1) (a := a) (b := b)
  have reduced : (if (2 * a ^^^ 2 * b).testBit m then 2 * a ^^^ 2 * b ^^^ poly else 2 * a ^^^ 2 * b) =
      (if (2 * a).testBit m then 2 * a ^^^ poly else 2 * a) ^^^ (if (2 * b).testBit m then 2 * b ^^^ poly else 2 * b) := by
    rw [Nat.testBit_xor]
    cases (2 * a).testBit m <;> cases (2 * b).testBit m
    · rfl
    · exact Nat.xor_assoc _ _ _
    · exact Nat.xor_right_comm _ _ _
    · have twice : 2 * a ^^^ poly ^^^ (2 * b ^^^ poly) = 2 * a ^^^ 2 * b := by
        rw [Nat.xor_assoc, Nat.xor_comm (2 * b), Nat.xor_xor_cancel_left]
      exact twice.symm
  simp only [nextShift, double, reduced, Nat.xor_mod_two_pow]

theorem timesPower_xor (k a b : Nat) : timesPower m poly k (a ^^^ b) = timesPower m poly k a ^^^ timesPower m poly k b := by
  induction k generalizing a b with
  | zero => rfl
  | succ k ih => exact (congrArg _ (nextShift_xor m poly a b)).trans (ih _ _)

@[simp] theorem timesPower_zero_right (k : Nat) : timesPower m poly k 0 = 0 := Function.iterate_fixed (nextShift_zero m poly) k

theorem timesPower_add (j k v : Nat) : timesPower m poly (j + k) v = timesPower m poly j (timesPower m poly k v) :=
  Function.iterate_add_apply _ j k v

theorem timesPower_comm (j k v : Nat) : timesPower m poly j (timesPower m poly k v) = timesPower m poly k (timesPower m poly j v) := by
  rw [← timesPower_add, Nat.add_comm, timesPower_add]

theorem timesPower_lt {v : Nat} (hv : v < 2 ^ m) (k : Nat) : timesPower m poly k v < 2 ^ m := by
  cases k with
  | zero => exact hv
  | succ k => exact (Function.iterate_succ_apply' _ k v).trans_lt (nextShift_lt m poly _)

theorem fieldPower_eq_timesPower (i : Nat) : fieldPower m poly i = timesPower m poly i 1 := by
  induction i with
  | zero => rfl
  | succ i ih => rw [fieldPower_succ, ih]; exact (Function.iterate_succ_apply' _ i 1).symm

/-! ### Tables of a field -/

/-- The tables that `BuildField` makes of legal parameters describe a field (41_rs_engine R241, R243). -/
structure BuildsField (m poly : Nat) : Prop where
  pos : 1 ≤ m
  le : m ≤ 8
  order : (buildField m poly).ok = true
  log : ∀ v, 1 ≤ v → v < 2 ^ m → (buildField m poly).alpha.getD ((buildField m poly).index.getD v 0) 0 = v

/-- The log of a symbol in the tables of `BuildField` (41_rs_engine R242). -/
def fieldLog (m poly v : Nat) : Nat := (buildField m poly).index.getD v 0

/-- The product of 41_rs_engine R245 of two symbols over the tables of `BuildField`. -/
def fieldProduct (m poly a b : Nat) : Nat :=
  logProduct (buildField m poly).alpha (2 ^ m - 1) (fieldLog m poly a) (fieldLog m poly b)

namespace BuildsField
variable (field : BuildsField m poly) {v : Nat}
include field

theorem one_le_order : 1 ≤ 2 ^ m - 1 := Nat.le_sub_of_add_le (Nat.one_lt_two_pow (Nat.one_le_iff_ne_zero.1 field.pos))

theorem timesPower_order (i : Nat) : timesPower m poly (i + (2 ^ m - 1)) 1 = timesPower m poly i 1 := by
  rw [timesPower_add, ← fieldPower_eq_timesPower (2 ^ m - 1), (ok_buildField_iff m poly).1 field.order]

theorem fieldPower_mod (i : Nat) : fieldPower m poly (i % (2 ^ m - 1)) = fieldPower m poly i := by
  have periodic : Function.Periodic (fieldPower m poly) (2 ^ m - 1) := fun i => by
    simp only [fieldPower_eq_timesPower]
    exact field.timesPower_order i
  exact periodic.map_mod_nat i

theorem fieldPower_ne_zero (i : Nat) : fieldPower m poly i ≠ 0 := by
  rw [← field.fieldPower_mod i]
  intro zero
  have below : i % (2 ^ m - 1) ≤ 2 ^ m - 1 := (Nat.mod_lt _ field.one_le_order).le
  exact absurd ((ok_buildField_iff m poly).1 field.order) (by simp [fieldPower_eq_zero_of_le zero below])

/-- `alpha[modnn(i)]` is `x^i` (41_rs_engine R242). -/
theorem alpha_mod (i : Nat) : (buildField m poly).alpha.getD (i % (2 ^ m - 1)) 0 = fieldPower m poly i := by
  rw [alpha_buildField field.le, if_pos (Nat.mod_lt _ field.one_le_order), field.fieldPower_mod]

theorem fieldLog_zero : fieldLog m poly 0 = 2 ^ m - 1 := by
  obtain ⟨-, -, -, -, -, -, zero, -⟩ := fieldTables m poly field.pos field.le
  exact zero field.order

/-- Every symbol but 0 is the power of `x` that its log says (41_rs_engine R243). -/
theorem fieldPower_log (h1 : 1 ≤ v) (hv : v < 2 ^ m) : fieldLog m poly v < 2 ^ m - 1 ∧ fieldPower m poly (fieldLog m poly v) = v := by
  have log : (buildField m poly).alpha.getD (fieldLog m poly v) 0 = v := field.log v h1 hv
  rw [alpha_buildField field.le] at log
  split_ifs at log with below
  · exact ⟨below, log⟩
  · omega

theorem fieldLog_eq_order_iff (hv : v < 2 ^ m) : fieldLog m poly v = 2 ^ m - 1 ↔ v = 0 := by
  constructor
  · intro log
    by_contra nonzero
    exact absurd log (field.fieldPower_log (Nat.pos_of_ne_zero nonzero) hv).1.ne
  · rintro rfl
    exact field.fieldLog_zero

/-- `alpha[modnn(index[v] + k)]` is `v · x^k` (41_rs_engine R244, R245). -/
theorem alpha_log_add (h1 : 1 ≤ v) (hv : v < 2 ^ m) (k : Nat) :
    (buildField m poly).alpha.getD ((fieldLog m poly v + k) % (2 ^ m - 1)) 0 = timesPower m poly k v := by
  rw [field.alpha_mod, fieldPower_eq_timesPower, Nat.add_comm, timesPower_add, ← fieldPower_eq_timesPower,
    (field.fieldPower_log h1 hv).2]

/-- The product of R245 with a power of `α` (41_rs_engine R245, 70_reset_and_hazards R787). -/
theorem logProduct_power (hv : v < 2 ^ m) (k : Nat) :
    logProduct (buildField m poly).alpha (2 ^ m - 1) (fieldLog m poly v) (k % (2 ^ m - 1)) = timesPower m poly k v := by
  by_cases zero : v = 0
  · rw [zero, field.fieldLog_zero, logProduct_zero_left, timesPower_zero_right]
  · have nonzero := (field.fieldLog_eq_order_iff hv).not.2 zero
    rw [logProduct_of_ne nonzero (Nat.mod_lt _ field.one_le_order).ne, Nat.add_mod_mod,
      field.alpha_log_add (Nat.pos_of_ne_zero zero) hv]

/-- The product with a symbol other than 0 is that with the power of `x` which it is. -/
theorem fieldProduct_eq {a b : Nat} (ha : 1 ≤ a) (ha' : a < 2 ^ m) (hb : b < 2 ^ m) :
    fieldProduct m poly a b = timesPower m poly (fieldLog m poly a) b := by
  have nonzero := (field.fieldPower_log ha ha').1.ne
  by_cases zero : b = 0
  · rw [fieldProduct, zero, field.fieldLog_zero, logProduct_zero_right, timesPower_zero_right]
  · rw [fieldProduct, logProduct_of_ne nonzero ((field.fieldLog_eq_order_iff hb).not.2 zero), Nat.add_comm,
      field.alpha_log_add (Nat.pos_of_ne_zero zero) hb]

theorem fieldProduct_zero_left (b : Nat) : fieldProduct m poly 0 b = 0 := by
  rw [fieldProduct, field.fieldLog_zero, logProduct_zero_left]

end BuildsField

/-! ### Polynomials read at a power of `x` -/

/-- The value at `x^k` of a polynomial, its coefficients lowest first. -/
def evalAt (m poly k : Nat) : List Nat → Nat
  | [] => 0
  | c :: cs => c ^^^ timesPower m poly k (evalAt m poly k cs)

/-- The sum of two polynomials of the same length, coefficient by coefficient. -/
def xorLists (as bs : List Nat) : List Nat := List.zipWith (· ^^^ ·) as bs

theorem xorLists_cons (a b : Nat) (as bs : List Nat) : xorLists (a :: as) (b :: bs) = (a ^^^ b) :: xorLists as bs := rfl

theorem xorLists_append_singleton {as bs : List Nat} (h : as.length = bs.length) (a b : Nat) :
    xorLists (as ++ [a]) (bs ++ [b]) = xorLists as bs ++ [a ^^^ b] := List.zipWith_append h

/-- Coefficients above the shorter list are dropped. -/
theorem xorLists_append_left {as bs : List Nat} (h : as.length = bs.length) (more : List Nat) :
    xorLists (as ++ more) bs = xorLists as bs := by
  simpa [xorLists] using List.zipWith_append (f := (· ^^^ ·)) (l₁' := more) (l₂' := []) h

theorem mem_xorLists {as bs : List Nat} {w : Nat} (has : ∀ a ∈ as, a < 2 ^ w) (hbs : ∀ b ∈ bs, b < 2 ^ w) :
    ∀ c ∈ xorLists as bs, c < 2 ^ w := by
  intro c hc
  rw [xorLists, ← List.map_uncurry_zip_eq_zipWith] at hc
  obtain ⟨⟨a, b⟩, hab, rfl⟩ := List.mem_map.1 hc
  obtain ⟨ha, hb⟩ := List.of_mem_zip hab
  exact Nat.xor_lt_two_pow (has a ha) (hbs b hb)

section
variable {k : Nat} {cs : List Nat}

theorem evalAt_eq_zero (h : ∀ c ∈ cs, c = 0) : evalAt m poly k cs = 0 := by
  induction cs with
  | nil => rfl
  | cons c cs ih =>
    obtain ⟨hc, hcs⟩ := List.forall_mem_cons.1 h
    rw [evalAt, ih hcs, hc, timesPower_zero_right, Nat.xor_zero]

theorem evalAt_xorLists {as bs : List Nat} (h : as.length = bs.length) :
    evalAt m poly k (xorLists as bs) = evalAt m poly k as ^^^ evalAt m poly k bs := by
  induction as generalizing bs with
  | nil =>
    obtain rfl : bs = [] := List.length_eq_zero_iff.1 h.symm
    exact (Nat.xor_self 0).symm
  | cons a as ih =>
    obtain ⟨b, bs, rfl⟩ := List.exists_cons_of_length_eq_add_one h.symm
    rw [xorLists_cons, evalAt, evalAt, evalAt, ih (Nat.succ_inj.1 h), timesPower_xor]
    simp only [Nat.xor_assoc, Nat.xor_left_comm]

theorem evalAt_map_timesPower (e : Nat) (cs : List Nat) :
    evalAt m poly k (cs.map (timesPower m poly e)) = timesPower m poly e (evalAt m poly k cs) := by
  induction cs with
  | nil => exact (timesPower_zero_right e).symm
  | cons c cs ih => rw [List.map_cons, evalAt, evalAt, ih, timesPower_xor, timesPower_comm]

theorem evalAt_lt (h : ∀ c ∈ cs, c < 2 ^ m) : evalAt m poly k cs < 2 ^ m := by
  induction cs with
  | nil => exact Nat.two_pow_pos m
  | cons c cs ih =>
    obtain ⟨hc, hcs⟩ := List.forall_mem_cons.1 h
    exact Nat.xor_lt_two_pow hc (timesPower_lt (ih hcs) k)

theorem evalAt_append (as bs : List Nat) :
    evalAt m poly k (as ++ bs) = evalAt m poly k as ^^^ timesPower m poly (k * as.length) (evalAt m poly k bs) := by
  induction as with
  | nil => exact (Nat.zero_xor _).symm
  | cons a as ih =>
    rw [List.cons_append, evalAt, evalAt, ih, timesPower_xor, ← timesPower_add, List.length_cons, Nat.mul_succ, Nat.add_comm k,
      Nat.xor_assoc]

theorem evalAt_append_singleton (cs : List Nat) (c : Nat) :
    evalAt m poly k (cs ++ [c]) = evalAt m poly k cs ^^^ timesPower m poly (k * cs.length) c := by
  simp [evalAt_append, evalAt]

end

end

/-! ### The generator -/

/-- A generator of degree `n` as `BuildGenerator` keeps it: its leading coefficient is 1, its constant one is not 0 (41_rs_engine R244). -/
structure GeneratorWf (m n : Nat) (g : List Nat) : Prop where
  monic : ∃ a, a.length = n ∧ g = a ++ [1]
  symbols : ∀ c ∈ g, c < 2 ^ m
  constant : g.headD 0 ≠ 0

/-- One factor of the generator over the tables of `BuildField` (41_rs_engine R244). -/
def fieldGeneratorStep (m poly : Nat) (g : List Nat) (root : Nat) : List Nat :=
  generatorStep (buildField m poly).alpha (buildField m poly).index (2 ^ m - 1) g root

/-- The generator over the tables of `BuildField` (41_rs_engine R244). -/
def fieldGenerator (m poly fcr prim n : Nat) : List Nat :=
  generatorCoeffs (buildField m poly).alpha (buildField m poly).index (2 ^ m - 1) fcr prim n

theorem fieldGenerator_succ (m poly fcr prim n : Nat) :
    fieldGenerator m poly fcr prim (n + 1) = fieldGeneratorStep m poly (fieldGenerator m poly fcr prim n) (fcr * prim + n * prim) := by
  simp only [fieldGenerator, generatorCoeffs, fieldGeneratorStep, List.range_succ, List.map_append, List.foldl_append, List.map_cons,
    List.map_nil, List.foldl_cons, List.foldl_nil]

namespace BuildsField
variable {m poly : Nat} (field : BuildsField m poly) {n : Nat} {g : List Nat}
include field

theorem timesPower_ne_zero {v : Nat} (h1 : 1 ≤ v) (hv : v < 2 ^ m) (k : Nat) : timesPower m poly k v ≠ 0 := by
  rw [← field.alpha_log_add h1 hv, field.alpha_mod]
  exact field.fieldPower_ne_zero _

/-- The coefficients between the first and the last of a factor (41_rs_engine R244). -/
theorem zipWith_mulByRoot (root : Nat) (prevs : List Nat) {curs : List Nat} (symbols : ∀ c ∈ curs, c < 2 ^ m) :
    List.zipWith (fun prev cur => if cur ≠ 0 then
        prev ^^^ mulByRoot (buildField m poly).alpha (buildField m poly).index (2 ^ m - 1) root cur else prev) prevs curs =
      xorLists prevs (curs.map (timesPower m poly root)) := by
  rw [xorLists, List.zipWith_map_right]
  induction prevs generalizing curs with
  | nil => rfl
  | cons prev prevs ih =>
    cases curs with
    | nil => rfl
    | cons cur curs =>
      obtain ⟨hcur, hcurs⟩ := List.forall_mem_cons.1 symbols
      rw [List.zipWith_cons_cons, List.zipWith_cons_cons, ih hcurs]
      congr 1
      split_ifs with nonzero
      · exact congrArg (prev ^^^ ·) (field.alpha_log_add (Nat.pos_of_ne_zero nonzero) hcur root)
      · rw [not_not.1 nonzero, timesPower_zero_right, Nat.xor_zero]

/-- A factor is the product with `x + x^root`: the polynomial shifted, and its multiple added (41_rs_engine R244). -/
theorem fieldGeneratorStep_eq (wf : GeneratorWf m n g) (root : Nat) :
    fieldGeneratorStep m poly g root = xorLists (0 :: g) (g.map (timesPower m poly root) ++ [0]) := by
  obtain ⟨⟨a, -, ha⟩, symbols, constant⟩ := wf
  cases g with
  | nil => exact absurd rfl constant
  | cons c t =>
    obtain ⟨hc, ht⟩ := List.forall_mem_cons.1 symbols
    have length : a.length = (t.map (timesPower m poly root)).length := by
      have := congrArg List.length ha
      simp only [List.length_cons, List.length_append, List.length_nil] at this
      simp only [List.length_map]
      omega
    have first : mulByRoot (buildField m poly).alpha (buildField m poly).index (2 ^ m - 1) root c = timesPower m poly root c :=
      field.alpha_log_add (Nat.pos_of_ne_zero constant) hc root
    rw [fieldGeneratorStep, generatorStep, List.headD_cons, List.tail_cons, field.zipWith_mulByRoot root _ ht, first, List.map_cons,
      List.cons_append, List.cons_append, xorLists_cons, Nat.zero_xor, ha, xorLists_append_singleton length, xorLists_append_left length,
      Nat.xor_zero]

theorem generatorWf_step (wf : GeneratorWf m n g) (root : Nat) : GeneratorWf m (n + 1) (fieldGeneratorStep m poly g root) where
  monic := by
    obtain ⟨a, length, ha⟩ := wf.monic
    refine ⟨_, ?_, rfl⟩
    simp [ha, length]
  symbols := by
    rw [field.fieldGeneratorStep_eq wf]
    have shifted : ∀ c ∈ 0 :: g, c < 2 ^ m := List.forall_mem_cons.2 ⟨Nat.two_pow_pos m, wf.symbols⟩
    refine mem_xorLists shifted (List.forall_mem_append.2 ⟨List.forall_mem_map.2 fun c hc => timesPower_lt (wf.symbols c hc) root, ?_⟩)
    simp
  constant := by
    rw [field.fieldGeneratorStep_eq wf]
    cases g with
    | nil => exact absurd rfl wf.constant
    | cons c t =>
      have nonzero := field.timesPower_ne_zero (Nat.pos_of_ne_zero wf.constant) (wf.symbols c List.mem_cons_self) root
      simpa [xorLists] using nonzero

theorem generatorWf (fcr prim n : Nat) : GeneratorWf m n (fieldGenerator m poly fcr prim n) := by
  induction n with
  | zero => exact ⟨⟨[], rfl, rfl⟩, by simpa [fieldGenerator, generatorCoeffs] using Nat.one_le_iff_ne_zero.1 field.pos, Nat.one_ne_zero⟩
  | succ n ih =>
    rw [fieldGenerator_succ]
    exact field.generatorWf_step ih _

theorem evalAt_fieldGeneratorStep (wf : GeneratorWf m n g) (k root : Nat) :
    evalAt m poly k (fieldGeneratorStep m poly g root) =
      timesPower m poly k (evalAt m poly k g) ^^^ timesPower m poly root (evalAt m poly k g) := by
  rw [field.fieldGeneratorStep_eq wf, evalAt_xorLists (by simp), evalAt_append_singleton, evalAt_map_timesPower, evalAt,
    Nat.zero_xor, timesPower_zero_right, Nat.xor_zero]

/-- The generator is 0 at its roots (41_rs_engine R244). -/
theorem evalAt_fieldGenerator (fcr prim : Nat) {i n : Nat} (hi : i < n) :
    evalAt m poly (fcr * prim + i * prim) (fieldGenerator m poly fcr prim n) = 0 := by
  induction n with
  | zero => exact absurd hi (Nat.not_lt_zero i)
  | succ n ih =>
    rw [fieldGenerator_succ, field.evalAt_fieldGeneratorStep (field.generatorWf fcr prim n)]
    rcases Nat.lt_succ_iff_lt_or_eq.1 hi with hi | rfl
    · rw [ih hi, timesPower_zero_right, timesPower_zero_right, Nat.xor_zero]
    · exact Nat.xor_self _

/-! ### The parity of the LFSR -/

variable {k : Nat} {a par : List Nat}

theorem evalAt_map_fieldProduct (root : evalAt m poly k (a ++ [1]) = 0) (symbols : ∀ c ∈ a, c < 2 ^ m) {f : Nat} (hf : f < 2 ^ m) :
    evalAt m poly k (a.map (fieldProduct m poly f)) = timesPower m poly (k * a.length) f := by
  by_cases zero : f = 0
  · rw [zero, timesPower_zero_right]
    exact evalAt_eq_zero (List.forall_mem_map.2 fun c _ => field.fieldProduct_zero_left c)
  · have h1 : 1 ≤ f := Nat.pos_of_ne_zero zero
    have products : a.map (fieldProduct m poly f) = a.map (timesPower m poly (fieldLog m poly f)) :=
      List.map_congr_left fun c hc => field.fieldProduct_eq h1 hf (symbols c hc)
    rw [evalAt_append_singleton] at root
    rw [products, evalAt_map_timesPower, Nat.xor_eq_zero_iff.1 root, timesPower_comm, ← fieldPower_eq_timesPower,
      (field.fieldPower_log h1 hf).2]

/-- A step of the LFSR shifts the parity and brings in the data symbol behind it, as seen at a root (41_rs_engine R251). -/
theorem evalAt_lfsrStep (root : evalAt m poly k (a ++ [1]) = 0) (symbols : ∀ c ∈ a, c < 2 ^ m) (nonzero : ∀ c ∈ a, c ≠ 0)
    (length : par.length = a.length) (degree : 1 ≤ a.length) (hpar : ∀ p ∈ par, p < 2 ^ m) {d : Nat} (hd : d < 2 ^ m) :
    evalAt m poly k (lfsrStep (buildField m poly).alpha (buildField m poly).index (a.map (fieldLog m poly)).reverse (2 ^ m - 1) par d).reverse =
      timesPower m poly k (evalAt m poly k par.reverse) ^^^ timesPower m poly (k * a.length) d := by
  obtain ⟨p, rest, rfl⟩ := List.exists_cons_of_length_pos (length.symm ▸ degree)
  have hf : d ^^^ p < 2 ^ m := Nat.xor_lt_two_pow hd (hpar p List.mem_cons_self)
  have restLength : rest.length + 1 = a.length := length
  have taps : ∀ g ∈ (a.map (fieldLog m poly)).reverse, g ≠ 2 ^ m - 1 := by
    intro g hg
    obtain ⟨c, hc, rfl⟩ := List.mem_map.1 (List.mem_reverse.1 hg)
    exact (field.fieldLog_eq_order_iff (symbols c hc)).not.2 (nonzero c hc)
  have step : (lfsrStep (buildField m poly).alpha (buildField m poly).index (a.map (fieldLog m poly)).reverse (2 ^ m - 1)
      (p :: rest) d).reverse = xorLists (0 :: rest.reverse) (a.map (fieldProduct m poly (d ^^^ p))) := by
    rw [lfsrStep_products taps (by simp; omega), List.reverse_zipWith (by simp; omega), List.reverse_reverse, List.zipWith_map_right,
      xorLists, List.zipWith_map_right, List.tail_cons, List.reverse_append]
    rfl
  have shift : timesPower m poly k (timesPower m poly (k * rest.length) p) = timesPower m poly (k * a.length) p := by
    rw [← timesPower_add, ← restLength, Nat.mul_succ, Nat.add_comm]
  rw [step, evalAt_xorLists (by simp; omega), field.evalAt_map_fieldProduct root symbols hf, evalAt, Nat.zero_xor,
    List.reverse_cons, evalAt_append_singleton, List.length_reverse, timesPower_xor, timesPower_xor, shift, Nat.xor_assoc,
    Nat.xor_comm (timesPower m poly (k * a.length) d)]

/-- At a root of the generator the parity is the data, shifted by its length (41_rs_engine R252). -/
theorem evalAt_lfsrParity (root : evalAt m poly k (a ++ [1]) = 0) (symbols : ∀ c ∈ a, c < 2 ^ m) (nonzero : ∀ c ∈ a, c ≠ 0)
    (degree : 1 ≤ a.length) {gen data : List Nat} (taps : gen.take a.length = a.map (fieldLog m poly)) (hdata : ∀ d ∈ data, d < 2 ^ m) :
    evalAt m poly k (lfsrParity data (buildField m poly).alpha (buildField m poly).index gen (2 ^ m - 1) a.length).reverse =
      timesPower m poly (k * a.length) (evalAt m poly k data.reverse) := by
  have enough : a.length ≤ gen.length := by
    have := congrArg List.length taps
    simp only [List.length_take, List.length_map] at this
    omega
  induction data using List.reverseRecOn with
  | nil =>
    rw [List.reverse_nil, evalAt, timesPower_zero_right]
    exact evalAt_eq_zero fun p hp => List.eq_of_mem_replicate (List.mem_reverse.1 hp)
  | append_singleton data d ih =>
    obtain ⟨hdata, hd⟩ := List.forall_mem_append.1 hdata
    have before := ih hdata
    have parity : lfsrParity (data ++ [d]) (buildField m poly).alpha (buildField m poly).index gen (2 ^ m - 1) a.length =
        lfsrStep (buildField m poly).alpha (buildField m poly).index (a.map (fieldLog m poly)).reverse (2 ^ m - 1)
          (lfsrParity data (buildField m poly).alpha (buildField m poly).index gen (2 ^ m - 1) a.length) d := by
      simp only [lfsrParity, taps, List.foldl_append, List.foldl_cons, List.foldl_nil]
    rw [parity, field.evalAt_lfsrStep root symbols nonzero (length_lfsrParity degree enough _ _ _ _) degree
        (mem_lfsrParity (mem_alpha_buildField field.pos poly) _ _ _ _ _) (hd d List.mem_cons_self),
      before, List.reverse_append, List.reverse_singleton, List.singleton_append, evalAt, timesPower_xor, timesPower_comm, Nat.xor_comm]

end BuildsField

/-! ### The engine of a state -/

section
variable {s : State}

/-- The tables of an engine that is ready are the tables of a field when they describe one (41_rs_engine R240, R243). -/
theorem State.buildsField (wf : s.StatusWf) (built : s.TablesBuilt) (ready : s.rsReady = true) (isField : s.isField) :
    BuildsField s.act.m.toNat s.act.poly.toNat := by
  obtain ⟨⟨pos, le⟩, -⟩ := (checkRsParams_eq_none_iff _ _ _ _ _).1 (wf.rsActive ready)
  obtain ⟨order, alpha, index, -⟩ := built ready
  have room : 2 ^ s.act.m.toNat ≤ 256 := two_pow_le_tableSize le
  refine ⟨pos, le, order, fun v h1 hv => ?_⟩
  have log : (s.indexOf.get v).toNat = fieldLog s.act.m.toNat s.act.poly.toNat v := by
    rw [fieldLog, ← index, Buffer.nats_getD _ _ _ _ (by omega), Nat.zero_add]
  have power := Buffer.nats_getD s.alphaTo 0 256 _ (s.indexOf.get v).isLt
  rw [Nat.zero_add, isField v h1 (Nat.le_sub_one_of_lt hv), alpha, log] at power
  exact power

variable (built : s.TablesBuilt) (ready : s.rsReady = true) (field : BuildsField s.act.m.toNat s.act.poly.toNat)
include built ready field

/-- The polynomial of R787 over the tables in `GF` is the one read with shifts (41_rs_engine R245, 70_reset_and_hazards R787). -/
theorem State.polyAt_eq_evalAt (k : Nat) {coeffs : List Nat} (symbols : ∀ c ∈ coeffs, c < 2 ^ s.act.m.toNat) :
    s.polyAt k coeffs = evalAt s.act.m.toNat s.act.poly.toNat k coeffs.reverse := by
  obtain ⟨-, alpha, index, -⟩ := built ready
  have room : 2 ^ s.act.m.toNat ≤ 256 := two_pow_le_tableSize field.le
  induction coeffs using List.reverseRecOn with
  | nil => rfl
  | append_singleton coeffs c ih =>
    obtain ⟨symbols, -⟩ := List.forall_mem_append.1 symbols
    have before := ih symbols
    have below : evalAt s.act.m.toNat s.act.poly.toNat k coeffs.reverse < 2 ^ s.act.m.toNat :=
      evalAt_lt fun c hc => symbols c (List.mem_reverse.1 hc)
    have log : (s.indexOf.get (s.polyAt k coeffs)).toNat =
        fieldLog s.act.m.toNat s.act.poly.toNat (evalAt s.act.m.toNat s.act.poly.toNat k coeffs.reverse) := by
      rw [before, fieldLog, ← index, Buffer.nats_getD _ _ _ _ (by omega), Nat.zero_add]
    have last : s.polyAt k (coeffs ++ [c]) =
        logProduct (s.alphaTo.nats 0 256) s.act.nn (s.indexOf.get (s.polyAt k coeffs)).toNat (k % s.act.nn) ^^^ c := by
      simp only [State.polyAt, List.foldl_append, List.foldl_cons, List.foldl_nil]
    rw [last, log, alpha, RsActive.nn, field.logProduct_power below, List.reverse_append, List.reverse_singleton, List.singleton_append,
      evalAt, Nat.xor_comm]

/-- The generator in `GF` below its leading coefficient (41_rs_engine R244). -/
theorem State.exists_generator (nonzero : ∀ k, k < s.act.nroots.toNat → (s.genpoly.get k).toNat ≠ s.act.nn)
    (roots : s.act.nroots.toNat ≤ 255) :
    ∃ a, a.length = s.act.nroots.toNat ∧
      fieldGenerator s.act.m.toNat s.act.poly.toNat s.act.fcr.toNat s.act.prim.toNat s.act.nroots.toNat = a ++ [1] ∧
      (∀ c ∈ a, c < 2 ^ s.act.m.toNat) ∧ (∀ c ∈ a, c ≠ 0) ∧
      (s.genpoly.nats 0 256).take a.length = a.map (fieldLog s.act.m.toNat s.act.poly.toNat) := by
  obtain ⟨-, -, -, gen⟩ := built ready
  have wf := field.generatorWf s.act.fcr.toNat s.act.prim.toNat s.act.nroots.toNat
  obtain ⟨a, length, ha⟩ := wf.monic
  have symbols : ∀ c ∈ a, c < 2 ^ s.act.m.toNat := fun c hc => wf.symbols c (ha ▸ List.mem_append_left _ hc)
  have logs : s.genpoly.nats 0 256 = (a ++ [1]).map (fieldLog s.act.m.toNat s.act.poly.toNat) ++
      List.replicate (256 - ((a ++ [1]).map (fieldLog s.act.m.toNat s.act.poly.toNat)).length) 0 := by
    rw [gen, ← ha]
    rfl
  have taps : (s.genpoly.nats 0 256).take a.length = a.map (fieldLog s.act.m.toNat s.act.poly.toNat) := by
    rw [logs, List.map_append, List.append_assoc]
    exact List.take_left' (List.length_map _)
  refine ⟨a, length, ha, symbols, fun c hc zero => ?_, taps⟩
  obtain ⟨k, hk, rfl⟩ := List.getElem_of_mem hc
  have read : (s.genpoly.nats 0 256).getD k 0 = (s.genpoly.get k).toNat := by
    rw [Buffer.nats_getD _ _ _ _ (by omega), Nat.zero_add]
  have entry : (s.genpoly.get k).toNat = fieldLog s.act.m.toNat s.act.poly.toNat a[k] := by
    rw [← read, logs, List.map_append, List.append_assoc, List.getD_append _ _ _ _ (by simpa using hk),
      List.getD_eq_getElem _ _ (by simpa using hk), List.getElem_map]
  exact nonzero k (length ▸ hk) (entry.trans ((field.fieldLog_eq_order_iff (symbols _ hc)).2 zero))

/-- Data and parity are 0 at every root of the generator (70_reset_and_hazards R787). -/
theorem State.polyAt_hostParity (nonzero : ∀ k, k < s.act.nroots.toNat → (s.genpoly.get k).toNat ≠ s.act.nn)
    (h1 : 1 ≤ s.act.nroots.toNat) (h255 : s.act.nroots.toNat ≤ 255) {data : List Nat} (symbols : ∀ d ∈ data, d < 2 ^ s.act.m.toNat)
    {i : Nat} (hi : i < s.act.nroots.toNat) :
    s.polyAt (s.act.fcr.toNat * s.act.prim.toNat + i * s.act.prim.toNat) (data ++ s.hostParity data) = 0 := by
  obtain ⟨a, length, ha, hsymbols, hnonzero, taps⟩ := State.exists_generator built ready field nonzero h255
  obtain ⟨-, alpha, index, -⟩ := built ready
  have root : evalAt s.act.m.toNat s.act.poly.toNat (s.act.fcr.toNat * s.act.prim.toNat + i * s.act.prim.toNat) (a ++ [1]) = 0 :=
    ha ▸ field.evalAt_fieldGenerator s.act.fcr.toNat s.act.prim.toNat hi
  have parity : s.hostParity data =
      lfsrParity data (buildField s.act.m.toNat s.act.poly.toNat).alpha (buildField s.act.m.toNat s.act.poly.toNat).index
        (s.genpoly.nats 0 256) (2 ^ s.act.m.toNat - 1) a.length := by
    rw [State.hostParity, alpha, index, RsActive.nn, length]
  have fits : ∀ c ∈ s.hostParity data, c < 2 ^ s.act.m.toNat :=
    parity ▸ mem_lfsrParity (mem_alpha_buildField field.pos s.act.poly.toNat) _ _ _ _ _
  have degree : (s.hostParity data).reverse.length = a.length := by
    rw [List.length_reverse, parity]
    exact length_lfsrParity (by omega) (by rw [Buffer.nats_length]; omega) _ _ _ _
  rw [State.polyAt_eq_evalAt built ready field _ (List.forall_mem_append.2 ⟨symbols, fits⟩), List.reverse_append, evalAt_append, degree,
    parity, field.evalAt_lfsrParity root hsymbols hnonzero (by omega) taps symbols, Nat.xor_self]

end

/-- Settles O25: the parity that `RS_ENCODE` writes makes the data a polynomial that is 0 at the roots of the generator. -/
theorem rsRoundTrip : Obligations.RsRoundTrip := by
  intro s wf built ready pad isField src len dst nroots nn nonzero hsrc hdst short inRange
  obtain ⟨⟨-, le⟩, -, -, ⟨h1, hroots⟩, -⟩ := (checkRsParams_eq_none_iff _ _ _ _ _).1 (wf.rsActive ready)
  have room : 2 ^ s.act.m.toNat ≤ 256 := two_pow_le_tableSize le
  have length : (s.hostParity s.rsData).length = nroots := length_hostParity wf ready s.rsData
  have pos : 0 < 2 ^ s.act.m.toNat := Nat.two_pow_pos _
  have shortEnough : len ≤ s.act.nn - nroots - s.act.pad.toNat := by rw [pad]; exact short
  obtain ⟨t, hexec, written, -, frame⟩ := encoder_result (exec_rsEncode_of_ready ready) ⟨hsrc, hdst⟩ shortEnough inRange length
    fun v hv => (mem_hostParity s s.rsData v hv).trans (by decide)
  have stored : t.cw.nats dst nroots = s.hostParity s.rsData := by
    apply List.ext_getElem (by rw [Buffer.nats_length, length])
    intro k hk hk'
    have inParity : k < nroots := hk'.trans_eq length
    rw [← List.getD_eq_getElem _ 0 hk, ← List.getD_eq_getElem _ 0 hk', Buffer.nats_getD _ _ _ _ inParity]
    exact written k inParity
  have symbols : ∀ d ∈ s.rsData, d < 2 ^ s.act.m.toNat := Buffer.forall_mem_nats fun j hj =>
    Nat.lt_of_le_pred pos (inRange j hj)
  refine ⟨t, hexec, by rw [frame], fun i hi => ?_⟩
  rw [stored]
  exact State.polyAt_hostParity built ready (State.buildsField wf built ready isField) nonzero h1 (by omega) symbols hi

end Sys2Proof.Machine
end
